-- ==== Sys2Proof/Word.lean ====
section
/-! DEFINITION. The two word types of the machine (00_scope.md R5, R6): bytes of 8 bits and 16-bit words. -/

namespace Sys2Proof

/-- A byte: one cell of the address space, one 8-bit register (R5, "byte size 8 bits"). -/
abbrev Byte := BitVec 8

/-- A 16-bit word: PC, SP, a register pair, a bus address (R5, R50). -/
abbrev Word := BitVec 16

end Sys2Proof
end

