-- ==== Sys2Proof/Machine/Bits.lean ====
section
/-! DEFINITION. Byte order, bit selection and sign extension, in the notation of 00_scope.md R6. -/

namespace Sys2Proof.Machine

/-- `hi :: lo`, the high byte in bits 15:8 (R6, R11, R63). -/
def join (hi lo : Byte) : Word := BitVec.ofNat 16 (hi.toNat * 256 + lo.toNat)

/-- Bits 15:8 of a word. -/
def hiByte (w : Word) : Byte := BitVec.ofNat 8 (w.toNat / 256)

/-- Bits 7:0 of a word. -/
def loByte (w : Word) : Byte := BitVec.ofNat 8 w.toNat

/-- `v[i]` (R6): bit `i` of a byte, bit 0 the least significant. -/
def bit (v : Byte) (i : Nat) : Bool := v.getLsbD i

/-- `v[hi:lo]` of a byte as a number, the field `width` bits wide (R6). -/
def field (v : Byte) (lo width : Nat) : Nat := v.toNat / 2 ^ lo % 2 ^ width

/-- The byte `1 << i` (R6, `IF.n <- 1`). -/
def bitMask (i : Nat) : Byte := BitVec.ofNat 8 (2 ^ i)

/-- `v | (1 << i)` (R284). -/
def setBit (v : Byte) (i : Nat) : Byte := v ||| bitMask i

/-- `v & ~(1 << i)` (R282). -/
def clearBit (v : Byte) (i : Nat) : Byte := v &&& ~~~ (bitMask i)

/-- `sext_16` (R6): bits 15:8 of the result all equal bit 7 of the byte. -/
def sext16 (v : Byte) : Word :=
  BitVec.ofNat 16 (if v.toNat < 128 then v.toNat else v.toNat + 65280)

/-- `signed8` (R6): the byte as a two's-complement integer. -/
def signed8 (v : Byte) : Int := if v.toNat < 128 then (v.toNat : Int) else (v.toNat : Int) - 256

end Sys2Proof.Machine
end

