-- ==== Sys2Proof/Config.lean ====
section
/-! DEFINITION. The parameters of 00_scope.md R5 that the spec marks OPEN, as plain data, with the spec's defaults
(92_eei_decisions.md part 8), and the two uninterpreted collaborators behind the bus interface of 20_memory.md R57, R58. -/

namespace Sys2Proof

/-- One pixel of the frame buffer, four components (10_state.md R27, "144×160 RGBA pixels"). -/
structure Rgba where
  r : Byte
  g : Byte
  b : Byte
  a : Byte
  deriving DecidableEq, Repr

/-- `TIMA_WINDOW_A_WRITE`: what a TIMA write does inside the pre-reload window (60_exceptions.md R329, D23). -/
inductive TimaWindowA where
  /-- The byte goes into TIMA; reload and request still happen. The spec's default. -/
  | storeOnly
  /-- The byte goes into TIMA; neither reload nor request happens. -/
  | cancel
  /-- The byte is what the reload loads, in place of TMA. -/
  | replaceReload
  deriving DecidableEq, Repr

/-- The scalar parameters of R5. They are an argument of the model: `State.cfg` holds them, no step changes them, and a
statement about every state is a statement about every value of them (log entry 3). -/
structure Config where
  /-- `DMA_TICKS` (R341, D20): a positive number of ticks. -/
  dmaTicks : Nat
  /-- `TIMA_WINDOW_A_WRITE` (R329, D23). -/
  timaWindowA : TimaWindowA
  /-- `LCD_OFF_DOTS` (R368, D27). -/
  lcdOffDots : Nat
  /-- `SHADE_RGBA(1)` (R370, D36); `SHADE_RGBA(0)` is white, see `Machine.shadeRgba`. -/
  shade1 : Rgba
  /-- `SHADE_RGBA(2)`. -/
  shade2 : Rgba
  /-- `SHADE_RGBA(3)`. -/
  shade3 : Rgba
  /-- `AUDIO_READ_OR_MASK` (R58, D39): the addresses with a non-zero mask; every other address has mask 0x00. -/
  audioReadOrMask : List Host.Cell
  deriving DecidableEq, Repr

/-- The defaults of R5 and of 92_eei_decisions.md part 8, which the spec's test vectors use. -/
def Config.default : Config where
  dmaTicks := 640
  timaWindowA := .storeOnly
  lcdOffDots := 0
  shade1 := ⟨170#8, 170#8, 170#8, 255#8⟩
  shade2 := ⟨85#8, 85#8, 85#8, 255#8⟩
  shade3 := ⟨0#8, 0#8, 0#8, 255#8⟩
  audioReadOrMask := []

/-- One tick's action of the host agent (60_exceptions.md R302): set IF bit 3, set IF bit 4, overwrite the joypad byte. -/
structure HostAct where
  serial : Bool
  joypad : Bool
  joypByte : Option Byte
  deriving DecidableEq, Repr

/-- What an audio collaborator other than the default has been told so far (20_memory.md R58). -/
inductive AudioEvent where
  | write (a : Word) (v : Byte)
  | clock
  deriving DecidableEq, Repr

/-- FREE VALUE. `Cart.read` of a cartridge that is not the default one (R57, D38): its image, everything ever written to it
(newest first), the address. Nothing is known of it (log entry 5). -/
opaque Config.cartAnswer (image : List Host.Cell) (told : List (Word × Byte)) (a : Word) : Byte

/-- FREE VALUE. `Audio.read` of an audio unit that is not the default one (R58, D39): everything it was told (newest first),
the address. Nothing is known of it (log entry 6). -/
opaque Config.audioAnswer (told : List AudioEvent) (a : Word) : Byte

end Sys2Proof
end

