-- ==== Sys2Proof/Machine/State.lean ====
section
/-! DEFINITION. The whole state of the block as plain data (10_state.md), why a step can stop, and the state after reset
(10_state.md R32 to R36, 70_reset_and_hazards.md R380 to R382). -/

namespace Sys2Proof.Machine

/-- Sparse byte storage: the cells that differ from 0x00, addresses strictly rising (`Memory.wf`; log entry 2). -/
abbrev Memory := List Host.Cell

/-- Sparse pixel storage: the pixels that differ from `Rgba` zero, index `160 * y + x` strictly rising. -/
abbrev FrameBuffer := List (Nat × Rgba)

/-- The register file (10_state.md R10 to R14) and the control state (R15) of the Processor. -/
structure Cpu where
  a : Byte
  /-- The flag byte: Z 7, N 6, H 5, C 4, bits 3:0 always 0 (R12). -/
  f : Byte
  b : Byte
  c : Byte
  d : Byte
  e : Byte
  h : Byte
  l : Byte
  sp : Word
  pc : Word
  /-- The master interrupt enable (R15). -/
  ime : Bool
  halted : Bool
  /-- The enable that EI scheduled (R15, 40_engine_system.md R116). -/
  imeSched : Bool
  /-- The next opcode fetch does not advance PC (R15, 40_engine_system.md R115). -/
  haltBug : Bool
  /-- Machine cycles the instruction in flight still takes (R15, 40_engine_system.md R114). -/
  busy : Nat
  /-- The position of the tick in the machine cycle (R15, 40_engine_system.md R111). -/
  phase : Fin 4
  deriving DecidableEq, Repr

/-- The Timer Unit (10_state.md R18 to R20). DIV is `counter[15:8]`. -/
structure Timer where
  counter : Word
  delayedBit : Bool
  overflowPending : Bool
  preReload : Nat
  postReload : Nat
  tima : Byte
  tma : Byte
  tac : Byte
  /-- Only under `TIMA_WINDOW_A_WRITE = replace_reload` (R20, 60_exceptions.md R329). -/
  reloadOverride : Option Byte
  deriving DecidableEq, Repr

/-- The DMA Unit (10_state.md R21). -/
structure Dma where
  source : Byte
  inProgress : Bool
  remaining : Nat
  deriving DecidableEq, Repr

/-- The Pixel Unit's modes (10_state.md R23, 60_exceptions.md R350). -/
inductive PpuMode where
  | hblank | vblank | oamScan | drawing
  deriving DecidableEq, Repr

/-- A 4-byte OAM record (10_state.md R27, R28). -/
structure Sprite where
  y : Byte
  x : Byte
  tile : Byte
  attr : Byte
  deriving DecidableEq, Repr

/-- The Pixel Unit: its registers (10_state.md R22 to R26) and its internal state (R27). -/
structure Ppu where
  lcdc : Byte
  stat : Byte
  scy : Byte
  scx : Byte
  ly : Byte
  lyc : Byte
  bgp : Byte
  obp0 : Byte
  obp1 : Byte
  wy : Byte
  wx : Byte
  mode : PpuMode
  dotsRemaining : Nat
  dotsLine : Nat
  px : Nat
  drawDelay : Nat
  sprites : List Sprite
  lycLatch : Bool
  fb : FrameBuffer
  deriving DecidableEq, Repr

/-- The cartridge collaborator (20_memory.md R57): the default ROM-only one over `image`, or, when `external`, any other one,
known only by what was written to it (`told`, newest first; log entry 5). -/
structure Cart where
  external : Bool
  image : Memory
  told : List (Word × Byte)
  deriving DecidableEq, Repr

/-- The audio collaborator (20_memory.md R58): the default plain bytes, or, when `external`, any other one, known only by what it
was told (newest first; log entry 6). -/
structure Audio where
  external : Bool
  told : List AudioEvent
  deriving DecidableEq, Repr

/-- Everything the spec gives the block, the inputs its surroundings will make, and the parameters. -/
structure State where
  cpu : Cpu
  /-- The cells of the address-space array (10_state.md R16) that are stored bytes without a register of their own: video RAM,
  work RAM (its echo has no storage, 20_memory.md R56), OAM, the unusable region, the other I/O bytes, HRAM, and the audio bytes
  of the default audio unit. -/
  mem : Memory
  /-- IF, 0xFF0F (10_state.md R17): the stored byte. -/
  ifReg : Byte
  /-- IE, 0xFFFF (10_state.md R17): the stored byte. -/
  ieReg : Byte
  timer : Timer
  dma : Dma
  ppu : Ppu
  cart : Cart
  audio : Audio
  /-- INPUT. The host agent's actions in the coming ticks, one a tick, next first; when none is left it does nothing, the
  default (60_exceptions.md R302; log entry 7). -/
  host : List HostAct
  /-- INPUT. `SPRITE_PENALTY` at the coming entries into Drawing, next first; when none is left, the default 0
  (60_exceptions.md R354; log entry 8). -/
  penalties : List Nat
  /-- OUTPUT. `FrameDone()` happened in the last tick (60_exceptions.md R373). -/
  frameDone : Bool
  /-- The tick number (70_reset_and_hazards.md R381, 40_engine_system.md R110). -/
  tick : Nat
  /-- The parameters (00_scope.md R5): no step changes them. -/
  cfg : Config
  deriving DecidableEq, Repr

/-- Why a step could stop with a fault. There is none: "Nothing in this machine has the treatment `fault`"
(93_implementation_defined.md part 1; 60_exceptions.md R300). The type is empty, so no meaning can raise one (safe). -/
inductive Fault where
  deriving DecidableEq, Repr

/-- Why a step could be refused. -/
inductive Refusal where
  /-- Raised by `exec`'s arm of an instruction that has no meaning yet; no arm of this model raises it (safe). -/
  | notModelled (mnemonic : String)
  deriving DecidableEq, Repr

/-- What a step, a meaning and the Processor's turn answer. -/
abbrev Result := Host.Outcome State Fault Refusal

/-- The Processor after reset (10_state.md R33). -/
def Cpu.reset : Cpu where
  a := 0x01#8
  f := 0xB0#8
  b := 0x00#8
  c := 0x13#8
  d := 0x00#8
  e := 0xD8#8
  h := 0x01#8
  l := 0x4D#8
  sp := 0xFFFE#16
  pc := 0x0100#16
  ime := false
  halted := false
  imeSched := false
  haltBug := false
  busy := 0
  phase := 0

/-- The Timer Unit after reset (10_state.md R34). -/
def Timer.reset : Timer where
  counter := 0xABCC#16
  delayedBit := false
  overflowPending := false
  preReload := 0
  postReload := 0
  tima := 0x00#8
  tma := 0x00#8
  tac := 0xF8#8
  reloadOverride := none

/-- The DMA Unit after reset (10_state.md R34). -/
def Dma.reset : Dma where
  source := 0xFF#8
  inProgress := false
  remaining := 0

/-- The Pixel Unit after reset (10_state.md R34): the first dot of line 0. The scan of the all-zero reset OAM selects nothing
(`Laws.reset_sprites_is_the_scan`). -/
def Ppu.reset : Ppu where
  lcdc := 0x91#8
  stat := 0x86#8
  scy := 0x00#8
  scx := 0x00#8
  ly := 0x00#8
  lyc := 0x00#8
  bgp := 0xFC#8
  obp0 := 0xFF#8
  obp1 := 0xFF#8
  wy := 0x00#8
  wx := 0x00#8
  mode := .oamScan
  dotsRemaining := 80
  dotsLine := 0
  px := 0
  drawDelay := 12
  sprites := []
  lycLatch := true
  fb := []

/-- The state as tick 0 begins, with the default parameters, the default collaborators, and `InitMem` and the frame buffer zero as
in the spec's vectors (10_state.md R32 to R36, 70_reset_and_hazards.md R382; log entries 1 and 2). -/
def State.reset : State where
  cpu := Cpu.reset
  mem := []
  ifReg := 0x00#8
  ieReg := 0x00#8
  timer := Timer.reset
  dma := Dma.reset
  ppu := Ppu.reset
  cart := ⟨false, [], []⟩
  audio := ⟨false, []⟩
  host := []
  penalties := []
  frameDone := false
  tick := 0
  cfg := Config.default

end Sys2Proof.Machine
end

