-- ==== Sys2Proof/Machine/Mem.lean ====
section
/-! DEFINITION. Sparse storage in one canonical form: reading, writing, and the form itself. Used for the byte cells
(10_state.md R16), the cartridge image (20_memory.md R57) and the frame buffer (10_state.md R27). -/

namespace Sys2Proof.Machine

/-- The value stored under key `k`; an unlisted key reads as `d`. -/
def sparseRead {α : Type} (d : α) : List (Nat × α) → Nat → α
  | [], _ => d
  | (i, v) :: rest, k => if i = k then v else sparseRead d rest k

/-- The list without key `k`. -/
def sparseErase {α : Type} : List (Nat × α) → Nat → List (Nat × α)
  | [], _ => []
  | (i, v) :: rest, k => if i = k then sparseErase rest k else (i, v) :: sparseErase rest k

/-- The list with `(k, v)` put before the first larger key. -/
def sparseInsert {α : Type} : List (Nat × α) → Nat → α → List (Nat × α)
  | [], k, v => [(k, v)]
  | (i, w) :: rest, k, v => if k < i then (k, v) :: (i, w) :: rest else (i, w) :: sparseInsert rest k v

/-- Store `v` under key `k`; storing what an unlisted key reads as leaves the key unlisted. -/
def sparseWrite {α : Type} [DecidableEq α] (d : α) (m : List (Nat × α)) (k : Nat) (v : α) : List (Nat × α) :=
  if v = d then sparseErase m k else sparseInsert (sparseErase m k) k v

/-- Every key is at least `lo`, keys strictly rise, and no entry equals the unlisted value. -/
def sparseWfFrom {α : Type} [DecidableEq α] (d : α) : Nat → List (Nat × α) → Bool
  | _, [] => true
  | lo, (k, v) :: rest => decide (lo ≤ k) && decide (v ≠ d) && sparseWfFrom d (k + 1) rest

/-- What a byte nothing has written reads as (10_state.md R35, the spec's test vectors' `InitMem`; log entry 2). -/
def unwritten : Byte := 0x00#8

/-- One byte cell. -/
def Memory.read (m : Memory) (k : Nat) : Byte := sparseRead unwritten m k

/-- Store one byte cell, keeping the canonical form. -/
def Memory.write (m : Memory) (k : Nat) (v : Byte) : Memory := sparseWrite unwritten m k v

/-- The canonical form of memory: addresses strictly rising and below 65,536, no cell equal to an unlisted one. -/
def Memory.wf (m : Memory) : Bool := sparseWfFrom unwritten 0 m && m.all (fun c => decide (c.1 < 65536))

/-- What a pixel nothing has produced reads as (10_state.md R34, `fb` unspecified at reset; log entry 2). -/
def unpainted : Rgba := ⟨0#8, 0#8, 0#8, 0#8⟩

/-- `fb[y][x]` (10_state.md R27). -/
def FrameBuffer.read (m : FrameBuffer) (x y : Nat) : Rgba := sparseRead unpainted m (160 * y + x)

/-- `fb[y][x] <- p`. -/
def FrameBuffer.write (m : FrameBuffer) (x y : Nat) (p : Rgba) : FrameBuffer :=
  sparseWrite unpainted m (160 * y + x) p

/-- The canonical form of the frame buffer: indexes strictly rising and below 160 × 144, no pixel equal to an unlisted one. -/
def FrameBuffer.wf (m : FrameBuffer) : Bool := sparseWfFrom unpainted 0 m && m.all (fun c => decide (c.1 < 23040))

end Sys2Proof.Machine
end

