-- ==== Sys2Proof/Machine/Irq.lean ====
section
/-! DEFINITION. The Interrupt Controller (60_exceptions.md R301 to R304): it inspects the two stored bytes directly. -/

namespace Sys2Proof.Machine

/-- `IF.i <- 1` (R302): a direct write, not a bus access; the other bits stay. -/
def requestIrq (i : Nat) (s : State) : State := { s with ifReg := setBit s.ifReg i }

/-- `IE & IF & 0x1F` (R303). -/
def pendingBits (s : State) : Byte := s.ieReg &&& s.ifReg &&& 0x1F#8

/-- `pending` (R303): some interrupt is enabled and requested, whatever IME is. -/
def pending (s : State) : Bool := decide (pendingBits s ≠ 0#8)

/-- The least `i` in 0..4 with `q[i] = 1` (R304); `none` when there is none. -/
def lowestIrq (q : Byte) : Option Nat := [0, 1, 2, 3, 4].find? (fun i => bit q i)

/-- The vector `0x0040 + 8 * i` (R301, R306). -/
def vectorOf (i : Nat) : Word := BitVec.ofNat 16 (0x0040 + 8 * i)

end Sys2Proof.Machine
end

