-- ==== Sys2Proof/Machine/Pixel.lean ====
section
/-! DEFINITION. The Pixel Unit (60_exceptions.md R350 to R373): the mode machine, the sprite selector, the STAT requests, the
composition of a pixel. It reads video RAM and OAM directly, never through the Processor's bus view (20_memory.md R60). -/

namespace Sys2Proof.Machine

/-- Interrupt indexes (60_exceptions.md R301). -/
def irqVBlank : Nat := 0
def irqStat : Nat := 1

/-- The mode numbers of STAT[1:0] (10_state.md R23). -/
def PpuMode.code : PpuMode → Nat
  | .hblank => 0
  | .vblank => 1
  | .oamScan => 2
  | .drawing => 3

/-! ### The sprite selector (R356, R357) -/

/-- The sprite height LCDC[2] selects (R356, 10_state.md R22). -/
def spriteHeight (lcdc : Byte) : Nat := if bit lcdc 2 then 16 else 8

/-- The Y-window of a sprite covers line `ly` (R356), on unbounded numbers. -/
def spriteCovers (h ly : Nat) (y : Byte) : Bool := decide (y.toNat ≤ ly + 16 ∧ ly + 16 < y.toNat + h)

/-- OAM entry `k` (10_state.md R28). -/
def oamEntry (mem : Memory) (k : Nat) : Sprite :=
  { y := mem.read (0xFE00 + 4 * k)
    x := mem.read (0xFE01 + 4 * k)
    tile := mem.read (0xFE02 + 4 * k)
    attr := mem.read (0xFE03 + 4 * k) }

/-- The entries that cover the line, in OAM order (R356). -/
def visibleSprites (mem : Memory) (h ly : Nat) : List Sprite :=
  ((List.range 40).map (oamEntry mem)).filter (fun e => spriteCovers h ly e.y)

/-- Insert into a list sorted by X, after the entries with the same X. -/
def insertByX (e : Sprite) : List Sprite → List Sprite
  | [] => [e]
  | x :: xs => if e.x.toNat < x.x.toNat then e :: x :: xs else x :: insertByX e xs

/-- `StableSortByX` (R357). -/
def stableSortByX (es : List Sprite) : List Sprite := es.foldl (fun acc e => insertByX e acc) []

/-- `Scan(ly)` (R356): the first ten entries that cover the line, sorted by X, ties in OAM order. -/
def scanSprites (mem : Memory) (h ly : Nat) : List Sprite := stableSortByX ((visibleSprites mem h ly).take 10)

/-! ### Pixel composition (R370 to R372) -/

/-- `SHADE_RGBA` (R370): shade 0 is white, the others are parameters. -/
def shadeRgba (cfg : Config) : Nat → Rgba
  | 0 => ⟨255#8, 255#8, 255#8, 255#8⟩
  | 1 => cfg.shade1
  | 2 => cfg.shade2
  | _ => cfg.shade3

/-- The shade a palette byte gives index `i`: bits 2i+1:2i (10_state.md R26). -/
def paletteShade (pal : Byte) (i : Nat) : Nat := field pal (2 * i) 2

/-- A two-plane pixel, the second byte the high bit (R371). -/
def planeIndex (lo hi : Byte) (p : Nat) : Nat := 2 * (bit hi p).toNat + (bit lo p).toNat

/-- The address of a tile's data (R371): unsigned from 0x8000, or signed from 0x9000. -/
def tileBase (lcdc t : Byte) : Nat :=
  if bit lcdc 4 then 0x8000 + 16 * t.toNat else (0x9000 + 16 * signed8 t).toNat

/-- `TilePixel(map_sel, bx, by)` (R371). -/
def tilePixel (mem : Memory) (lcdc : Byte) (mapSel : Bool) (bx byy : Nat) : Nat :=
  let map := if mapSel then 0x9C00 else 0x9800
  let t := mem.read (map + 32 * (byy / 8) + bx / 8)
  let row := tileBase lcdc t + 2 * (byy % 8)
  planeIndex (mem.read row) (mem.read (row + 1)) (7 - bx % 8)

/-- The palette index of one sprite at `(x, y)`, when it covers the point (R372). -/
def spriteIndexAt (mem : Memory) (h x y : Nat) (e : Sprite) : Option Nat :=
  if e.x.toNat ≤ x + 8 ∧ x + 8 < e.x.toNat + 8 ∧ e.y.toNat ≤ y + 16 ∧ y + 16 < e.y.toNat + h then
    let col0 := x + 8 - e.x.toNat
    let row0 := y + 16 - e.y.toNat
    let col := if bit e.attr 5 then 7 - col0 else col0
    let row := if bit e.attr 6 then h - 1 - row0 else row0
    let tile := if h = 16 then e.tile &&& 0xFE#8 else e.tile
    let base := 0x8000 + 16 * tile.toNat + 2 * row
    some (planeIndex (mem.read base) (mem.read (base + 1)) (7 - col))
  else none

/-- `SpritePixel(x, y)` (R372): the first entry of the sorted list with a non-zero index at the point, with its attribute byte. -/
def spritePixel (mem : Memory) (h x y : Nat) : List Sprite → Option (Nat × Byte)
  | [] => none
  | e :: es =>
    match spriteIndexAt mem h x y e with
    | some (i + 1) => some (i + 1, e.attr)
    | _ => spritePixel mem h x y es

/-- The background or window under a pixel: its palette index and its shade (R370 b, c, d). -/
def backgroundPixel (mem : Memory) (p : Ppu) (x y : Nat) : Nat × Nat :=
  if !bit p.lcdc 0 then (0, 0)
  else
    let i :=
      if bit p.lcdc 5 ∧ p.wy.toNat ≤ y ∧ p.wx.toNat ≤ x + 7 then
        tilePixel mem p.lcdc (bit p.lcdc 6) (x + 7 - p.wx.toNat) (y - p.wy.toNat)
      else tilePixel mem p.lcdc (bit p.lcdc 3) ((x + p.scx.toNat) % 256) ((y + p.scy.toNat) % 256)
    (i, paletteShade p.bgp i)

/-- The shade of the pixel `(x, y)` (R370): a sprite pixel that does not yield, else what is under it. -/
def pixelShade (mem : Memory) (p : Ppu) (x y : Nat) : Nat :=
  let under := backgroundPixel mem p x y
  if bit p.lcdc 1 then
    match spritePixel mem (spriteHeight p.lcdc) x y p.sprites with
    | none => under.2
    | some (i, attr) =>
      if bit attr 7 ∧ under.1 ≠ 0 then under.2
      else paletteShade (if bit attr 4 then p.obp1 else p.obp0) i
  else under.2

/-- `EmitPixel(x, y)` (R370). -/
def emitPixel (x y : Nat) (s : State) : State :=
  { s with ppu := { s.ppu with fb := s.ppu.fb.write x y (shadeRgba s.cfg (pixelShade s.mem s.ppu x y)) } }

/-! ### The mode machine (R352 to R369) -/

/-- `SetMode(m)` (R353): the mode and STAT[1:0] move together. -/
def setMode (m : PpuMode) (s : State) : State :=
  { s with ppu := { s.ppu with mode := m, stat := (s.ppu.stat &&& 0xFC#8) ||| BitVec.ofNat 8 m.code } }

/-- A STAT source's event (R364): IF bit 1 when its select bit of STAT is 1 at that moment. -/
def statEvent (selectBit : Nat) (s : State) : State :=
  if bit s.ppu.stat selectBit then requestIrq irqStat s else s

/-- `EnterMode2()` (R355): the scan, and the mode-2 event. -/
def enterOamScan (s : State) : State :=
  let s1 := setMode .oamScan s
  statEvent 5
    { s1 with ppu := { s1.ppu with
        dotsRemaining := 80
        sprites := scanSprites s1.mem (spriteHeight s1.ppu.lcdc) s1.ppu.ly.toNat } }

/-- `SPRITE_PENALTY` at this entry into Drawing, in 0 to 184 (R354; log entry 8). -/
def spritePenalty (s : State) : Nat := min (s.penalties.headD 0) 184

/-- `EnterMode3()` (R358): SCX is sampled for the length of the mode. -/
def enterDrawing (s : State) : State :=
  let s1 := setMode .drawing s
  let delay := 12 + s1.ppu.scx.toNat % 8
  { s1 with
    penalties := s1.penalties.tail
    ppu := { s1.ppu with drawDelay := delay, dotsRemaining := 172 + delay + spritePenalty s1, px := 0 } }

/-- `EnterMode0()` (R359): what remains of the line's 456 dots, and the mode-0 event. -/
def enterHBlank (s : State) : State :=
  let s1 := setMode .hblank s
  statEvent 3 { s1 with ppu := { s1.ppu with dotsRemaining := 456 - s1.ppu.dotsLine } }

/-- `EnterMode1()` (R361): the VBlank request, the mode-1 event, and `FrameDone()` (R373). -/
def enterVBlank (s : State) : State :=
  let s1 := setMode .vblank s
  statEvent 4 (requestIrq irqVBlank { s1 with frameDone := true, ppu := { s1.ppu with dotsRemaining := 456 } })

/-- The next line (R353): LY counts, the line's dots start again. -/
def nextLine (s : State) : State :=
  { s with ppu := { s.ppu with ly := s.ppu.ly + 1#8, dotsLine := 0 } }

/-- `Transition()` (R353), by the mode that has run out. -/
def transition (s : State) : State :=
  match s.ppu.mode with
  | .oamScan => enterDrawing s
  | .drawing => enterHBlank s
  | .hblank =>
    let s1 := nextLine s
    if s1.ppu.ly = 144#8 then enterVBlank s1 else enterOamScan s1
  | .vblank =>
    let s1 := nextLine s
    if s1.ppu.ly = 154#8 then enterOamScan { s1 with ppu := { s1.ppu with ly := 0#8 } }
    else { s1 with ppu := { s1.ppu with dotsRemaining := 456 } }

/-- `LycCompare()` (R365): the match flag, and the match event on its rising edge. -/
def lycCompare (s : State) : State :=
  let m := decide (s.ppu.ly = s.ppu.lyc)
  let rose := m && !s.ppu.lycLatch
  let s1 := { s with ppu := { s.ppu with
    stat := (s.ppu.stat &&& 0xFB#8) ||| (if m then 0x04#8 else 0x00#8)
    lycLatch := m } }
  if rose then statEvent 6 s1 else s1

/-- Step 1 of `PPU.clock()` (R352, R360): at most one pixel per Drawing dot, once past the start-up delay. -/
def drawStep (s : State) : State :=
  if s.ppu.mode = .drawing ∧ 80 + s.ppu.drawDelay ≤ s.ppu.dotsLine ∧ s.ppu.px < 160 then
    let s1 := emitPixel s.ppu.px s.ppu.ly.toNat s
    { s1 with ppu := { s1.ppu with px := s1.ppu.px + 1 } }
  else s

/-- Step 2 of `PPU.clock()` (R352): the dot is counted. -/
def countDot (s : State) : State :=
  { s with ppu := { s.ppu with dotsRemaining := s.ppu.dotsRemaining - 1, dotsLine := s.ppu.dotsLine + 1 } }

/-- `PPU.clock()` (R352): frozen while LCDC[7] is 0 (R368). -/
def ppuClock (s : State) : State :=
  if !bit s.ppu.lcdc 7 then s
  else
    let s1 := countDot (drawStep s)
    lycCompare (if s1.ppu.dotsRemaining = 0 then transition s1 else s1)

/-- LCD off (R368). -/
def lcdOff (s : State) : State :=
  let s1 := setMode .hblank { s with ppu := { s.ppu with ly := 0#8 } }
  { s1 with ppu := { s1.ppu with dotsRemaining := s1.cfg.lcdOffDots, dotsLine := 0, px := 0 } }

/-- LCD on (R369): line 0 from its OAM scan. -/
def lcdOn (s : State) : State :=
  enterOamScan { s with ppu := { s.ppu with ly := 0#8, dotsLine := 0, px := 0 } }

/-- A bus write of `v` to LCDC (20_memory.md R55): the byte, then the effect of a change of bit 7. -/
def writeLcdc (v : Byte) (s : State) : State :=
  let s1 := { s with ppu := { s.ppu with lcdc := v } }
  if bit s.ppu.lcdc 7 && !bit v 7 then lcdOff s1
  else if !bit s.ppu.lcdc 7 && bit v 7 then lcdOn s1
  else s1

end Sys2Proof.Machine
end

