-- ==== Sys2Proof/Machine/Timer.lean ====
section
/-! DEFINITION. The Timer Unit (60_exceptions.md R320 to R333). -/

namespace Sys2Proof.Machine

/-- The Timer interrupt's index (60_exceptions.md R301). -/
def irqTimer : Nat := 2

/-- `SEL = [9, 3, 5, 7]`: the counter bit that TAC[1:0] selects (R322). -/
def selectedBit (tac : Byte) : Nat :=
  match field tac 0 2 with
  | 0 => 9
  | 1 => 3
  | 2 => 5
  | _ => 7

/-- `sample()` (R322): the selected counter bit and the enable bit TAC[2]. -/
def Timer.sample (t : Timer) : Bool := t.counter.getLsbD (selectedBit t.tac) && bit t.tac 2

/-- DIV as the bus reads it: `counter[15:8]` (10_state.md R18). -/
def Timer.div (t : Timer) : Byte := hiByte t.counter

/-- `TimaIncrement()` (R324): an increment from 0xFF opens window A. -/
def Timer.increment (t : Timer) : Timer :=
  if t.tima = 0xFF#8 then { t with tima := 0x00#8, overflowPending := true, preReload := 4 }
  else { t with tima := t.tima + 1#8 }

/-- `Edge()` (R325): a sampled bit that falls from 1 to 0 increments TIMA. -/
def Timer.edge (t : Timer) : Timer :=
  let fell := t.delayedBit && !t.sample
  { (if fell then t.increment else t) with delayedBit := t.sample }

/-- `Timer.ResetCounter()` (R328): a DIV write or STOP clears the counter and evaluates the edge at once. -/
def Timer.resetCounter (t : Timer) : Timer := Timer.edge { t with counter := 0x0000#16 }

/-- The end of window A (R323 step 2, R329): TIMA from TMA, or from the override of `replace_reload`; window B opens. -/
def Timer.reload (t : Timer) : Timer :=
  { t with
    tima := t.reloadOverride.getD t.tma
    reloadOverride := none
    overflowPending := false
    postReload := 4 }

/-- Steps 1 and 2 of `Timer.clock()` (R323): the two windows count down; window A ends with the reload. -/
def Timer.windows (t : Timer) : Timer :=
  let t1 := { t with postReload := t.postReload - 1 }
  if t1.preReload = 0 then t1
  else if t1.preReload = 1 then Timer.reload { t1 with preReload := 0 }
  else { t1 with preReload := t1.preReload - 1 }

/-- Whether this clock ends window A and so requests the Timer interrupt (R323 step 2). -/
def Timer.endsWindowA (t : Timer) : Bool := decide (t.preReload = 1)

/-- Steps 3 and 4 of `Timer.clock()` (R323): count, then evaluate the edge. -/
def Timer.count (t : Timer) : Timer := Timer.edge { t with counter := t.counter + 1#16 }

/-- The Timer Unit's own state after `Timer.clock()` (R323). -/
def Timer.clock (t : Timer) : Timer := t.windows.count

/-- `Timer.clock()` with its interrupt request (R323). -/
def timerClock (s : State) : State :=
  let s1 := { s with timer := s.timer.clock }
  if s.timer.endsWindowA then requestIrq irqTimer s1 else s1

/-- A bus write of `v` to TIMA (R329): by the window it falls in. -/
def Timer.writeTima (how : TimaWindowA) (v : Byte) (t : Timer) : Timer :=
  if 0 < t.preReload then
    match how with
    | .storeOnly => { t with tima := v }
    | .cancel => { t with tima := v, overflowPending := false, preReload := 0 }
    | .replaceReload => { t with reloadOverride := some v }
  else if 0 < t.postReload then t
  else { t with tima := v }

/-- A bus write of `v` to TMA (R330): in window B it re-latches TIMA too. -/
def Timer.writeTma (v : Byte) (t : Timer) : Timer :=
  if 0 < t.postReload then { t with tma := v, tima := v } else { t with tma := v }

/-- A bus write of `v` to TAC (R331): all eight bits, no evaluation of the edge. -/
def Timer.writeTac (v : Byte) (t : Timer) : Timer := { t with tac := v }

end Sys2Proof.Machine
end

