-- ==== Sys2Proof/Machine/Bus.lean ====
section
/-! DEFINITION. The Register Bus (20_memory.md): which cell or unit an address reaches, the unblocked read and write decode, the
cartridge and audio collaborators, and the DMA Unit's clock (60_exceptions.md R340 to R343), which reads through that decode. -/

namespace Sys2Proof.Machine

/-- What stands behind an address (20_memory.md R51, R54, R55, 10_state.md section 5). -/
inductive Target where
  /-- The cartridge collaborator (R57). -/
  | cart
  /-- The audio collaborator (R58). -/
  | audio
  /-- A stored byte, by the address of its one home. -/
  | cell (home : Nat)
  | div | tima | tma | tac
  | ifReg | ieReg
  | lcdc | stat | scy | scx | ly | lyc | dmaSource | bgp | obp0 | obp1 | wy | wx
  deriving DecidableEq, Repr

/-- The I/O page and above, 0xFF00 to 0xFFFF (10_state.md section 5, 20_memory.md R61). -/
def ioTarget (n : Nat) : Target :=
  if n = 0xFF04 then .div
  else if n = 0xFF05 then .tima
  else if n = 0xFF06 then .tma
  else if n = 0xFF07 then .tac
  else if n = 0xFF0F then .ifReg
  else if 0xFF10 ≤ n ∧ n ≤ 0xFF3F then .audio
  else if n = 0xFF40 then .lcdc
  else if n = 0xFF41 then .stat
  else if n = 0xFF42 then .scy
  else if n = 0xFF43 then .scx
  else if n = 0xFF44 then .ly
  else if n = 0xFF45 then .lyc
  else if n = 0xFF46 then .dmaSource
  else if n = 0xFF47 then .bgp
  else if n = 0xFF48 then .obp0
  else if n = 0xFF49 then .obp1
  else if n = 0xFF4A then .wy
  else if n = 0xFF4B then .wx
  else if n = 0xFFFF then .ieReg
  else .cell n

/-- The address map (R51). The echo range has no storage of its own: its cells are those of work RAM, 0x2000 below (R56). -/
def target (a : Word) : Target :=
  let n := a.toNat
  if n < 0x8000 then .cart
  else if n < 0xA000 then .cell n
  else if n < 0xC000 then .cart
  else if n < 0xE000 then .cell n
  else if n < 0xFE00 then .cell (n - 0x2000)
  else if n < 0xFF00 then .cell n
  else ioTarget n

/-! ### The collaborators (R57, R58) -/

/-- `Cart.read`: the image below 0x8000 and 0xFF above, for the default cartridge. -/
def Cart.read (c : Cart) (a : Word) : Byte :=
  if c.external then Config.cartAnswer c.image c.told a
  else if a.toNat < 0x8000 then c.image.read a.toNat
  else 0xFF#8

/-- `Cart.write`: the default cartridge ignores it. -/
def Cart.write (c : Cart) (a : Word) (v : Byte) : Cart :=
  if c.external then { c with told := (a, v) :: c.told } else c

/-- `Audio.read`: the stored byte, for the default audio unit. -/
def audioRead (s : State) (a : Word) : Byte :=
  if s.audio.external then Config.audioAnswer s.audio.told a else s.mem.read a.toNat

/-- `Audio.write`: the default audio unit stores the byte. -/
def audioWrite (a : Word) (v : Byte) (s : State) : State :=
  if s.audio.external then { s with audio := { s.audio with told := .write a v :: s.audio.told } }
  else { s with mem := s.mem.write a.toNat v }

/-- `Audio.clock()` (R58, 40_engine_system.md R110): nothing, for the default audio unit. -/
def audioClock (s : State) : State :=
  if s.audio.external then { s with audio := { s.audio with told := .clock :: s.audio.told } } else s

/-- `AUDIO_READ_OR_MASK(a)` (R58). -/
def audioReadOrMask (cfg : Config) (a : Word) : Byte := Memory.read cfg.audioReadOrMask a.toNat

/-! ### The decode (R54, R55) -/

/-- `RawRead(addr)` (R54). No read changes any state. -/
def rawRead (s : State) (a : Word) : Byte :=
  match target a with
  | .cart => s.cart.read a
  | .audio => audioRead s a ||| audioReadOrMask s.cfg a
  | .cell k => s.mem.read k
  | .div => s.timer.div
  | .tima => s.timer.tima
  | .tma => s.timer.tma
  | .tac => s.timer.tac
  | .ifReg => s.ifReg ||| 0xE0#8
  | .ieReg => s.ieReg ||| 0xE0#8
  | .lcdc => s.ppu.lcdc
  | .stat => s.ppu.stat
  | .scy => s.ppu.scy
  | .scx => s.ppu.scx
  | .ly => s.ppu.ly
  | .lyc => s.ppu.lyc
  | .dmaSource => s.dma.source
  | .bgp => s.ppu.bgp
  | .obp0 => s.ppu.obp0
  | .obp1 => s.ppu.obp1
  | .wy => s.ppu.wy
  | .wx => s.ppu.wx

/-- The start of a DMA transfer from page `v` (60_exceptions.md R341). -/
def startDma (v : Byte) (s : State) : State :=
  { s with dma := { source := v, inProgress := true, remaining := s.cfg.dmaTicks } }

/-- `RawWrite(addr, v)` (R55). -/
def rawWrite (a : Word) (v : Byte) (s : State) : State :=
  match target a with
  | .cart => { s with cart := s.cart.write a v }
  | .audio => audioWrite a v s
  | .cell k => { s with mem := s.mem.write k v }
  | .div => { s with timer := s.timer.resetCounter }
  | .tima => { s with timer := s.timer.writeTima s.cfg.timaWindowA v }
  | .tma => { s with timer := s.timer.writeTma v }
  | .tac => { s with timer := s.timer.writeTac v }
  | .ifReg => { s with ifReg := v }
  | .ieReg => { s with ieReg := v }
  | .lcdc => writeLcdc v s
  | .stat => { s with ppu := { s.ppu with stat := (v &&& 0xF8#8) ||| (s.ppu.stat &&& 0x07#8) } }
  | .scy => { s with ppu := { s.ppu with scy := v } }
  | .scx => { s with ppu := { s.ppu with scx := v } }
  | .ly => s
  | .lyc => { s with ppu := { s.ppu with lyc := v } }
  | .dmaSource => startDma v s
  | .bgp => { s with ppu := { s.ppu with bgp := v } }
  | .obp0 => { s with ppu := { s.ppu with obp0 := v } }
  | .obp1 => { s with ppu := { s.ppu with obp1 := v } }
  | .wy => { s with ppu := { s.ppu with wy := v } }
  | .wx => { s with ppu := { s.ppu with wx := v } }

/-! ### The DMA Unit's clock (60_exceptions.md R342) -/

/-- `((mem[0xFF46] << 8) + i) mod 2^16` (R342). -/
def dmaSourceAddr (source : Byte) (i : Nat) : Word := BitVec.ofNat 16 (256 * source.toNat + i)

/-- One byte of the copy: a direct write to OAM of a byte read through the unblocked decode (R342). -/
def dmaCopyByte (s : State) (i : Nat) : State :=
  { s with mem := s.mem.write (0xFE00 + i) (rawRead s (dmaSourceAddr s.dma.source i)) }

/-- The 160-byte copy, in increasing order (R342). -/
def dmaCopy (s : State) : State := (List.range 160).foldl dmaCopyByte s

/-- The countdown of a transfer (R342). -/
def dmaCount (s : State) : State :=
  { s with dma := { s.dma with
      remaining := s.dma.remaining - 1
      inProgress := decide (s.dma.remaining - 1 ≠ 0) } }

/-- `DMA.clock()` (R342): the copy in the first tick of the transfer, then the countdown. -/
def dmaClock (s : State) : State :=
  if s.dma.inProgress then
    dmaCount (if s.dma.remaining = s.cfg.dmaTicks then dmaCopy s else s)
  else s

end Sys2Proof.Machine
end

