-- ==== Sys2Proof/Syntax.lean ====
section
/-! DEFINITION. The instruction set as syntax: one constructor of `Instr` for each of the 512 rows of spec/opcode_table.json
(30_encoding.md R95, R96), and the field codes of R91 as inductive types. -/

namespace Sys2Proof

/-- The 8-bit registers an `r` field selects (R91); code 6 is not a register. -/
inductive Reg8 where
  | b | c | d | e | h | l | a
  deriving DecidableEq, Repr

/-- The eight values of an `r` field (R91): a register, or the memory byte at HL (code 6). -/
inductive Opnd8 where
  | reg (r : Reg8)
  | mHl
  deriving DecidableEq, Repr

/-- The table `dd` of 16-bit registers (R91). -/
inductive Reg16 where
  | bc | de | hl | sp
  deriving DecidableEq, Repr

/-- The table `qq` of registers PUSH and POP name (R91). -/
inductive PairQ where
  | bc | de | hl | af
  deriving DecidableEq, Repr

/-- The condition codes `cc` (R91). -/
inductive Cond where
  | nz | z | nc | c
  deriving DecidableEq, Repr

/-- The 8-bit ALU operations `alu` (R91). -/
inductive Alu where
  | add | adc | sub | sbc | and | xor | or | cp
  deriving DecidableEq, Repr

/-- The prefixed rotate, shift and swap operations `rot` (R91). -/
inductive Rot where
  | rlc | rrc | rl | rr | sla | sra | swap | srl
  deriving DecidableEq, Repr

/-- A 3-bit field: a bit number `b`, a restart code `t`, the y or z of an opcode byte (R91, R92). -/
inductive Oct where
  | o0 | o1 | o2 | o3 | o4 | o5 | o6 | o7
  deriving DecidableEq, Repr

/-- The eleven opcode bytes with no instruction assigned (R98). -/
inductive Hole where
  | d3 | db | dd | e3 | e4 | eb | ec | ed | f4 | fc | fd
  deriving DecidableEq, Repr

/-- One constructor per row of the opcode table, its immediate bytes as arguments: `n` and `e` a byte (`e` is read as signed
where it is used), `nn` a word (R93). A memory operand is written `M` before the register or immediate that addresses it.
`prefixCb` is the row PREFIX CB, the first byte of the 256 prefixed rows, with its operand byte (R124). The rows with an
immediate come first (Lean's runtime numbers constructors with arguments below 244), each group in the table's order. -/
inductive Instr where
  | ldBcNn (nn : Word)
  | ldBN (n : Byte)
  | ldMNnSp (nn : Word)
  | ldCN (n : Byte)
  | stop (n : Byte)
  | ldDeNn (nn : Word)
  | ldDN (n : Byte)
  | jrRel (e : Byte)
  | ldEN (n : Byte)
  | jrNzRel (e : Byte)
  | ldHlNn (nn : Word)
  | ldHN (n : Byte)
  | jrZRel (e : Byte)
  | ldLN (n : Byte)
  | jrNcRel (e : Byte)
  | ldSpNn (nn : Word)
  | ldMHlN (n : Byte)
  | jrCRel (e : Byte)
  | ldAN (n : Byte)
  | jpNzNn (nn : Word)
  | jpNn (nn : Word)
  | callNzNn (nn : Word)
  | addAN (n : Byte)
  | jpZNn (nn : Word)
  | prefixCb (op2 : Byte)
  | callZNn (nn : Word)
  | callNn (nn : Word)
  | adcAN (n : Byte)
  | jpNcNn (nn : Word)
  | callNcNn (nn : Word)
  | subN (n : Byte)
  | jpCNn (nn : Word)
  | callCNn (nn : Word)
  | sbcAN (n : Byte)
  | ldhMNA (n : Byte)
  | andN (n : Byte)
  | addSpRel (e : Byte)
  | ldMNnA (nn : Word)
  | xorN (n : Byte)
  | ldhAMN (n : Byte)
  | orN (n : Byte)
  | ldHlSpE (e : Byte)
  | ldAMNn (nn : Word)
  | cpN (n : Byte)
  | nop
  | ldMBcA
  | incBc
  | incB
  | decB
  | rlca
  | addHlBc
  | ldAMBc
  | decBc
  | incC
  | decC
  | rrca
  | ldMDeA
  | incDe
  | incD
  | decD
  | rla
  | addHlDe
  | ldAMDe
  | decDe
  | incE
  | decE
  | rra
  | ldMHlIncA
  | incHl
  | incH
  | decH
  | daa
  | addHlHl
  | ldAMHlInc
  | decHl
  | incL
  | decL
  | cpl
  | ldMHlDecA
  | incSp
  | incMHl
  | decMHl
  | scf
  | addHlSp
  | ldAMHlDec
  | decSp
  | incA
  | decA
  | ccf
  | ldBB
  | ldBC
  | ldBD
  | ldBE
  | ldBH
  | ldBL
  | ldBMHl
  | ldBA
  | ldCB
  | ldCC
  | ldCD
  | ldCE
  | ldCH
  | ldCL
  | ldCMHl
  | ldCA
  | ldDB
  | ldDC
  | ldDD
  | ldDE
  | ldDH
  | ldDL
  | ldDMHl
  | ldDA
  | ldEB
  | ldEC
  | ldED
  | ldEE
  | ldEH
  | ldEL
  | ldEMHl
  | ldEA
  | ldHB
  | ldHC
  | ldHD
  | ldHE
  | ldHH
  | ldHL
  | ldHMHl
  | ldHA
  | ldLB
  | ldLC
  | ldLD
  | ldLE
  | ldLH
  | ldLL
  | ldLMHl
  | ldLA
  | ldMHlB
  | ldMHlC
  | ldMHlD
  | ldMHlE
  | ldMHlH
  | ldMHlL
  | halt
  | ldMHlA
  | ldAB
  | ldAC
  | ldAD
  | ldAE
  | ldAH
  | ldAL
  | ldAMHl
  | ldAA
  | addAB
  | addAC
  | addAD
  | addAE
  | addAH
  | addAL
  | addAMHl
  | addAA
  | adcAB
  | adcAC
  | adcAD
  | adcAE
  | adcAH
  | adcAL
  | adcAMHl
  | adcAA
  | subB
  | subC
  | subD
  | subE
  | subH
  | subL
  | subMHl
  | subA
  | sbcAB
  | sbcAC
  | sbcAD
  | sbcAE
  | sbcAH
  | sbcAL
  | sbcAMHl
  | sbcAA
  | andB
  | andC
  | andD
  | andE
  | andH
  | andL
  | andMHl
  | andA
  | xorB
  | xorC
  | xorD
  | xorE
  | xorH
  | xorL
  | xorMHl
  | xorA
  | orB
  | orC
  | orD
  | orE
  | orH
  | orL
  | orMHl
  | orA
  | cpB
  | cpC
  | cpD
  | cpE
  | cpH
  | cpL
  | cpMHl
  | cpA
  | retNz
  | popBc
  | pushBc
  | rst00
  | retZ
  | ret
  | rst08
  | retNc
  | popDe
  | undefD3
  | pushDe
  | rst10
  | retC
  | reti
  | undefDB
  | undefDD
  | rst18
  | popHl
  | ldhMCA
  | undefE3
  | undefE4
  | pushHl
  | rst20
  | jpHl
  | undefEB
  | undefEC
  | undefED
  | rst28
  | popAf
  | ldhAMC
  | di
  | undefF4
  | pushAf
  | rst30
  | ldSpHl
  | ei
  | undefFC
  | undefFD
  | rst38
  | rlcB
  | rlcC
  | rlcD
  | rlcE
  | rlcH
  | rlcL
  | rlcMHl
  | rlcA
  | rrcB
  | rrcC
  | rrcD
  | rrcE
  | rrcH
  | rrcL
  | rrcMHl
  | rrcA
  | rlB
  | rlC
  | rlD
  | rlE
  | rlH
  | rlL
  | rlMHl
  | rlA
  | rrB
  | rrC
  | rrD
  | rrE
  | rrH
  | rrL
  | rrMHl
  | rrA
  | slaB
  | slaC
  | slaD
  | slaE
  | slaH
  | slaL
  | slaMHl
  | slaA
  | sraB
  | sraC
  | sraD
  | sraE
  | sraH
  | sraL
  | sraMHl
  | sraA
  | swapB
  | swapC
  | swapD
  | swapE
  | swapH
  | swapL
  | swapMHl
  | swapA
  | srlB
  | srlC
  | srlD
  | srlE
  | srlH
  | srlL
  | srlMHl
  | srlA
  | bit0B
  | bit0C
  | bit0D
  | bit0E
  | bit0H
  | bit0L
  | bit0MHl
  | bit0A
  | bit1B
  | bit1C
  | bit1D
  | bit1E
  | bit1H
  | bit1L
  | bit1MHl
  | bit1A
  | bit2B
  | bit2C
  | bit2D
  | bit2E
  | bit2H
  | bit2L
  | bit2MHl
  | bit2A
  | bit3B
  | bit3C
  | bit3D
  | bit3E
  | bit3H
  | bit3L
  | bit3MHl
  | bit3A
  | bit4B
  | bit4C
  | bit4D
  | bit4E
  | bit4H
  | bit4L
  | bit4MHl
  | bit4A
  | bit5B
  | bit5C
  | bit5D
  | bit5E
  | bit5H
  | bit5L
  | bit5MHl
  | bit5A
  | bit6B
  | bit6C
  | bit6D
  | bit6E
  | bit6H
  | bit6L
  | bit6MHl
  | bit6A
  | bit7B
  | bit7C
  | bit7D
  | bit7E
  | bit7H
  | bit7L
  | bit7MHl
  | bit7A
  | res0B
  | res0C
  | res0D
  | res0E
  | res0H
  | res0L
  | res0MHl
  | res0A
  | res1B
  | res1C
  | res1D
  | res1E
  | res1H
  | res1L
  | res1MHl
  | res1A
  | res2B
  | res2C
  | res2D
  | res2E
  | res2H
  | res2L
  | res2MHl
  | res2A
  | res3B
  | res3C
  | res3D
  | res3E
  | res3H
  | res3L
  | res3MHl
  | res3A
  | res4B
  | res4C
  | res4D
  | res4E
  | res4H
  | res4L
  | res4MHl
  | res4A
  | res5B
  | res5C
  | res5D
  | res5E
  | res5H
  | res5L
  | res5MHl
  | res5A
  | res6B
  | res6C
  | res6D
  | res6E
  | res6H
  | res6L
  | res6MHl
  | res6A
  | res7B
  | res7C
  | res7D
  | res7E
  | res7H
  | res7L
  | res7MHl
  | res7A
  | set0B
  | set0C
  | set0D
  | set0E
  | set0H
  | set0L
  | set0MHl
  | set0A
  | set1B
  | set1C
  | set1D
  | set1E
  | set1H
  | set1L
  | set1MHl
  | set1A
  | set2B
  | set2C
  | set2D
  | set2E
  | set2H
  | set2L
  | set2MHl
  | set2A
  | set3B
  | set3C
  | set3D
  | set3E
  | set3H
  | set3L
  | set3MHl
  | set3A
  | set4B
  | set4C
  | set4D
  | set4E
  | set4H
  | set4L
  | set4MHl
  | set4A
  | set5B
  | set5C
  | set5D
  | set5E
  | set5H
  | set5L
  | set5MHl
  | set5A
  | set6B
  | set6C
  | set6D
  | set6E
  | set6H
  | set6L
  | set6MHl
  | set6A
  | set7B
  | set7C
  | set7D
  | set7E
  | set7H
  | set7L
  | set7MHl
  | set7A
  deriving DecidableEq, Repr

end Sys2Proof
end

