-- ==== Sys2Proof/Machine/Operands.lean ====
section
/-! DEFINITION. Register operands (10_state.md R10 to R14, 30_encoding.md R91, 00_scope.md R6): 8-bit registers, pairs, SP. -/

namespace Sys2Proof.Machine

/-- `x[r]` (00_scope.md R6). -/
def Cpu.reg (c : Cpu) : Reg8 → Byte
  | .b => c.b
  | .c => c.c
  | .d => c.d
  | .e => c.e
  | .h => c.h
  | .l => c.l
  | .a => c.a

/-- `x[r] <- v`. -/
def Cpu.setReg (c : Cpu) (r : Reg8) (v : Byte) : Cpu :=
  match r with
  | .b => { c with b := v }
  | .c => { c with c := v }
  | .d => { c with d := v }
  | .e => { c with e := v }
  | .h => { c with h := v }
  | .l => { c with l := v }
  | .a => { c with a := v }

/-- The pairs (10_state.md R11): the first letter is the high byte. -/
def Cpu.bc (c : Cpu) : Word := join c.b c.c
def Cpu.de (c : Cpu) : Word := join c.d c.e
def Cpu.hl (c : Cpu) : Word := join c.h c.l
def Cpu.af (c : Cpu) : Word := join c.a c.f

/-- Writing a pair writes its two halves (R11). -/
def Cpu.setBc (c : Cpu) (w : Word) : Cpu := { c with b := hiByte w, c := loByte w }
def Cpu.setDe (c : Cpu) (w : Word) : Cpu := { c with d := hiByte w, e := loByte w }
def Cpu.setHl (c : Cpu) (w : Word) : Cpu := { c with h := hiByte w, l := loByte w }

/-- Writing AF forces F[3:0] to 0 (R12, 42_load16_stack.md R175). -/
def Cpu.setAf (c : Cpu) (w : Word) : Cpu := { c with a := hiByte w, f := loByte w &&& 0xF0#8 }

/-- `xx_dd[p]` (00_scope.md R6). -/
def Cpu.reg16 (c : Cpu) : Reg16 → Word
  | .bc => c.bc
  | .de => c.de
  | .hl => c.hl
  | .sp => c.sp

/-- `xx_dd[p] <- w`. -/
def Cpu.setReg16 (c : Cpu) (r : Reg16) (w : Word) : Cpu :=
  match r with
  | .bc => c.setBc w
  | .de => c.setDe w
  | .hl => c.setHl w
  | .sp => { c with sp := w }

/-- `xx_qq[p]`. -/
def Cpu.pairQ (c : Cpu) : PairQ → Word
  | .bc => c.bc
  | .de => c.de
  | .hl => c.hl
  | .af => c.af

/-- `xx_qq[p] <- w`. -/
def Cpu.setPairQ (c : Cpu) (r : PairQ) (w : Word) : Cpu :=
  match r with
  | .bc => c.setBc w
  | .de => c.setDe w
  | .hl => c.setHl w
  | .af => c.setAf w

end Sys2Proof.Machine
end

