-- ==== Sys2Proof/Machine/Flags.lean ====
section
/-! DEFINITION. The flag byte (10_state.md R12) and every flag computation: the arithmetic primitives of 43_alu8.md R180, the
rotates and shifts of 47_cb_shift.md R260, the 16-bit sums, DAA and the conditions. Operands are taken as numbers, the result
computed exactly and then narrowed, so carries are comparisons. -/

namespace Sys2Proof.Machine

/-- The flag byte with these four flags: Z 7, N 6, H 5, C 4, F[3:0] = 0 (R12). -/
def packFlags (z n h c : Bool) : Byte :=
  (if z then 0x80#8 else 0#8) ||| (if n then 0x40#8 else 0#8) ||| (if h then 0x20#8 else 0#8) |||
    (if c then 0x10#8 else 0#8)

/-- `fZ fN fH fC` (00_scope.md R6). -/
def Cpu.fZ (c : Cpu) : Bool := bit c.f 7
def Cpu.fN (c : Cpu) : Bool := bit c.f 6
def Cpu.fH (c : Cpu) : Bool := bit c.f 5
def Cpu.fC (c : Cpu) : Bool := bit c.f 4

/-- A flags line `Z N H C = …` (00_scope.md R6). -/
def Cpu.setFlags (cpu : Cpu) (z n h c : Bool) : Cpu := { cpu with f := packFlags z n h c }

/-- `cond(cc)` (00_scope.md R6). -/
def Cpu.cond (cpu : Cpu) : Cond → Bool
  | .nz => !cpu.fZ
  | .z => cpu.fZ
  | .nc => !cpu.fC
  | .c => cpu.fC

/-- The result of a primitive: the byte and the four flags. -/
structure Out8 where
  res : Byte
  z : Bool
  n : Bool
  h : Bool
  c : Bool
  deriving DecidableEq, Repr

/-- `add8(a, b, c)` (43_alu8.md R180). -/
def add8 (a b : Byte) (cin : Bool) : Out8 :=
  let sum := a.toNat + b.toNat + cin.toNat
  let res := BitVec.ofNat 8 sum
  { res := res
    z := decide (res = 0#8)
    n := false
    h := decide (a.toNat % 16 + b.toNat % 16 + cin.toNat > 0x0F)
    c := decide (sum > 0xFF) }

/-- `sub8(a, b, c)` (43_alu8.md R180): the borrows are compared before any narrowing. -/
def sub8 (a b : Byte) (cin : Bool) : Out8 :=
  let diff : Int := (a.toNat : Int) - b.toNat - cin.toNat
  let res := BitVec.ofInt 8 diff
  { res := res
    z := decide (res = 0#8)
    n := true
    h := decide (a.toNat % 16 < b.toNat % 16 + cin.toNat)
    c := decide (a.toNat < b.toNat + cin.toNat) }

/-- `and8(a, b)` (43_alu8.md R180). -/
def and8 (a b : Byte) : Out8 := { res := a &&& b, z := decide (a &&& b = 0#8), n := false, h := true, c := false }

/-- `xor8(a, b)` (43_alu8.md R180). -/
def xor8 (a b : Byte) : Out8 := { res := a ^^^ b, z := decide (a ^^^ b = 0#8), n := false, h := false, c := false }

/-- `or8(a, b)` (43_alu8.md R180). -/
def or8 (a b : Byte) : Out8 := { res := a ||| b, z := decide (a ||| b = 0#8), n := false, h := false, c := false }

/-- The ALU operation of field `alu` on A and an operand, with the carry flag in (43_alu8.md R181 to R204). -/
def aluOut (op : Alu) (a b : Byte) (fc : Bool) : Out8 :=
  match op with
  | .add => add8 a b false
  | .adc => add8 a b fc
  | .sub => sub8 a b false
  | .sbc => sub8 a b fc
  | .and => and8 a b
  | .xor => xor8 a b
  | .or => or8 a b
  | .cp => sub8 a b false

/-- `inc8(v)` (43_alu8.md R180), with the carry flag that stays. -/
def inc8 (v : Byte) (fc : Bool) : Out8 :=
  let res := BitVec.ofNat 8 (v.toNat + 1)
  { res := res, z := decide (res = 0#8), n := false, h := decide (v.toNat % 16 = 0x0F), c := fc }

/-- `dec8(v)` (43_alu8.md R180), with the carry flag that stays. -/
def dec8 (v : Byte) (fc : Bool) : Out8 :=
  let res := BitVec.ofInt 8 ((v.toNat : Int) - 1)
  { res := res, z := decide (res = 0#8), n := true, h := decide (v.toNat % 16 = 0x00), c := fc }

/-- `rlc8` … `srl8`: the result byte (47_cb_shift.md R260). -/
def rotRes (op : Rot) (v : Byte) (fc : Bool) : Byte :=
  match op with
  | .rlc => BitVec.ofNat 8 (2 * v.toNat + (bit v 7).toNat)
  | .rrc => BitVec.ofNat 8 (v.toNat / 2 + 128 * (bit v 0).toNat)
  | .rl => BitVec.ofNat 8 (2 * v.toNat + fc.toNat)
  | .rr => BitVec.ofNat 8 (v.toNat / 2 + 128 * fc.toNat)
  | .sla => BitVec.ofNat 8 (2 * v.toNat)
  | .sra => BitVec.ofNat 8 (v.toNat / 2 + 128 * (bit v 7).toNat)
  | .swap => BitVec.ofNat 8 (16 * (v.toNat % 16) + v.toNat / 16)
  | .srl => BitVec.ofNat 8 (v.toNat / 2)

/-- The bit shifted out, the new carry flag (47_cb_shift.md R260); SWAP clears it. -/
def rotCarry (op : Rot) (v : Byte) : Bool :=
  match op with
  | .rlc => bit v 7
  | .rrc => bit v 0
  | .rl => bit v 7
  | .rr => bit v 0
  | .sla => bit v 7
  | .sra => bit v 0
  | .swap => false
  | .srl => bit v 0

/-- A prefixed rotate, shift or swap with its flags (47_cb_shift.md R260). -/
def rotOut (op : Rot) (v : Byte) (fc : Bool) : Out8 :=
  { res := rotRes op v fc
    z := decide (rotRes op v fc = 0#8)
    n := false
    h := false
    c := rotCarry op v }

/-- `DAA` (45_accum_misc.md R234): the adjustment to packed decimal. -/
def daaOut (a : Byte) (fn fh fc : Bool) : Out8 :=
  let lowAdj := if fn then fh else fh || decide (a.toNat % 16 > 0x09)
  let highAdj := if fn then fc else fc || decide (a.toNat > 0x99)
  let adj : Nat := (if lowAdj then 0x06 else 0x00) + (if highAdj then 0x60 else 0x00)
  let res := if fn then BitVec.ofInt 8 ((a.toNat : Int) - adj) else BitVec.ofNat 8 (a.toNat + adj)
  { res := res
    z := decide (res = 0#8)
    n := fn
    h := false
    c := if fn then fc else highAdj }

/-- The carry out of bit 11 of a 16-bit sum (44_alu16.md R220). -/
def halfCarry16 (x y : Word) : Bool := decide (x.toNat % 4096 + y.toNat % 4096 > 0x0FFF)

/-- The carry out of bit 15 of a 16-bit sum (44_alu16.md R220). -/
def carry16 (x y : Word) : Bool := decide (x.toNat + y.toNat > 0xFFFF)

/-- The carry out of bit 3 of SP's low byte plus the byte e (42_load16_stack.md R173, 44_alu16.md R223). -/
def halfCarrySp (sp : Word) (e : Byte) : Bool := decide (sp.toNat % 16 + e.toNat % 16 > 0x0F)

/-- The carry out of bit 7 of SP's low byte plus the unsigned byte e (R173, R223). -/
def carrySp (sp : Word) (e : Byte) : Bool := decide (sp.toNat % 256 + e.toNat > 0xFF)

/-- Write the four flags of a primitive's result. -/
def Cpu.setOutFlags (cpu : Cpu) (o : Out8) : Cpu := cpu.setFlags o.z o.n o.h o.c

end Sys2Proof.Machine
end

