-- ==== Sys2Proof/Machine/Ops.lean ====
section
/-! DEFINITION. The Processor's bus view (20_memory.md R52, R53, R64), its stack (00_scope.md R6), the cost of an instruction
(40_engine_system.md R114), taking an interrupt (60_exceptions.md R306) and returning from one (46_control.md R249). -/

namespace Sys2Proof.Machine

/-- 0xFF80 to 0xFFFE, the range a DMA transfer never blocks (R51, R52). -/
def inHram (a : Word) : Bool := decide (0xFF80 ≤ a.toNat ∧ a.toNat ≤ 0xFFFE)

/-- The DMA block of R52 and R53. -/
def dmaBlocks (s : State) (a : Word) : Bool := s.dma.inProgress && !inHram a

/-- `rd8(a)`, that is `MemRead(a, 1)` (R52). -/
def rd8 (s : State) (a : Word) : Byte := if dmaBlocks s a then 0xFF#8 else rawRead s a

/-- `wr8(a, v)`, that is `MemWrite(a, 1, v)` (R53). -/
def wr8 (a : Word) (v : Byte) (s : State) : State := if dmaBlocks s a then s else rawWrite a v s

/-- `MemRead(a, 2)` (R64): the low byte first. -/
def rd16 (s : State) (a : Word) : Word := join (rd8 s (a + 1#16)) (rd8 s a)

/-- `MemWrite(a, 2, w)` (R64): the low byte first. -/
def wr16 (a : Word) (w : Word) (s : State) : State := wr8 (a + 1#16) (hiByte w) (wr8 a (loByte w) s)

/-- A change of the Processor's own registers. -/
def onCpu (g : Cpu → Cpu) (s : State) : State := { s with cpu := g s.cpu }

/-- `push16(w)` (00_scope.md R6): the high byte first, at the higher address. -/
def push16 (w : Word) (s : State) : State :=
  let s1 := onCpu (fun c => { c with sp := c.sp - 1#16 }) s
  let s2 := wr8 s1.cpu.sp (hiByte w) s1
  let s3 := onCpu (fun c => { c with sp := c.sp - 1#16 }) s2
  wr8 s3.cpu.sp (loByte w) s3

/-- The word `pop16()` returns (00_scope.md R6): the low byte at SP, the high byte at SP + 1. -/
def popValue (s : State) : Word := rd16 s s.cpu.sp

/-- SP after `pop16()` (00_scope.md R6). -/
def dropTop (c : Cpu) : Cpu := { c with sp := c.sp + 2#16 }

/-- `cost <- n`, as `busy <- cost - 1` (40_engine_system.md R112, R114). -/
def spend (n : Nat) (s : State) : State := onCpu (fun c => { c with busy := n - 1 }) s

/-- The value of an 8-bit operand: a register, or the memory byte at HL (30_encoding.md R91, R94). -/
def operand (s : State) : Opnd8 → Byte
  | .reg r => s.cpu.reg r
  | .mHl => rd8 s s.cpu.hl

/-- Write an 8-bit operand: a register, or a bus write at HL. -/
def setOperand (x : Opnd8) (v : Byte) (s : State) : State :=
  match x with
  | .reg r => onCpu (fun c => c.setReg r v) s
  | .mHl => wr8 s.cpu.hl v s

/-- 0xFF00 + n, the address of an LDH form (30_encoding.md R93). -/
def highPage (n : Byte) : Word := join 0xFF#8 n

/-- PC plus a signed displacement (46_control.md, common facts). -/
def relTarget (pc : Word) (e : Byte) : Word := pc + sext16 e

/-- TAKING AN INTERRUPT, `Dispatch()` (60_exceptions.md R306): IME off, PC pushed, then the lowest pending request selected,
cleared and entered at its vector; PC is 0x0000 when the pushes left none. Cost 5. -/
def dispatch (s : State) : State :=
  let s1 := push16 s.cpu.pc (onCpu (fun c => { c with ime := false, imeSched := false }) s)
  let s2 :=
    match lowestIrq (pendingBits s1) with
    | some i => onCpu (fun c => { c with pc := vectorOf i }) { s1 with ifReg := clearBit s1.ifReg i }
    | none => onCpu (fun c => { c with pc := 0x0000#16 }) s1
  spend 5 s2

/-- RETURNING FROM ONE (46_control.md R249, 60_exceptions.md R308): PC popped, IME on at once. -/
def returnFromInterrupt (s : State) : State :=
  onCpu (fun c => { dropTop c with pc := popValue s, ime := true }) s

end Sys2Proof.Machine
end

