-- ==== Sys2Proof/Machine/Accum.lean ====
section
/-! DEFINITION. Accumulator rotates and flag instructions (45_accum_misc.md R230 to R237). -/

namespace Sys2Proof.Machine

/-! ### The shared operations -/

/-- A rotate of A (R230 to R233): as the prefixed one, but Z is cleared. -/
def rotAOp (op : Rot) (s : State) : State :=
  spend 1 (onCpu (fun c =>
    Cpu.setFlags { c with a := rotRes op c.a c.fC } false false false (rotCarry op c.a)) s)

/-- DAA (R234). -/
def daaOp (s : State) : State :=
  spend 1 (onCpu (fun c =>
    let o := daaOut c.a c.fN c.fH c.fC
    Cpu.setOutFlags { c with a := o.res } o) s)

/-- CPL (R235). -/
def cplOp (s : State) : State :=
  spend 1 (onCpu (fun c => Cpu.setFlags { c with a := c.a ^^^ 0xFF#8 } c.fZ true true c.fC) s)

/-- SCF (R236). -/
def scfOp (s : State) : State := spend 1 (onCpu (fun c => c.setFlags c.fZ false false true) s)

/-- CCF (R237). -/
def ccfOp (s : State) : State := spend 1 (onCpu (fun c => c.setFlags c.fZ false false (!c.fC)) s)

/-! ### One meaning per row of the opcode table -/

/-- R230: RLCA. -/
def execRlca (s : State) : Result := .next (rotAOp .rlc s)

/-- R231: RRCA. -/
def execRrca (s : State) : Result := .next (rotAOp .rrc s)

/-- R232: RLA. -/
def execRla (s : State) : Result := .next (rotAOp .rl s)

/-- R233: RRA. -/
def execRra (s : State) : Result := .next (rotAOp .rr s)

/-- R234: DAA. -/
def execDaa (s : State) : Result := .next (daaOp s)

/-- R235: CPL. -/
def execCpl (s : State) : Result := .next (cplOp s)

/-- R236: SCF. -/
def execScf (s : State) : Result := .next (scfOp s)

/-- R237: CCF. -/
def execCcf (s : State) : Result := .next (ccfOp s)

end Sys2Proof.Machine
end

