-- ==== Sys2Proof/Machine/Alu16.lean ====
section
/-! DEFINITION. 16-bit arithmetic (44_alu16.md R220 to R223). -/

namespace Sys2Proof.Machine

/-! ### The shared operations -/

/-- `HL <- HL + xx_dd[p]` (R220): Z unchanged, N cleared, H and C the carries out of bits 11 and 15. -/
def addHlOp (r : Reg16) (s : State) : State :=
  spend 2 (onCpu (fun c =>
    (c.setHl (c.hl + c.reg16 r)).setFlags c.fZ false (halfCarry16 c.hl (c.reg16 r)) (carry16 c.hl (c.reg16 r))) s)

/-- `xx_dd[p] <- xx_dd[p] + step`, no flag (R221, R222). -/
def step16Op (r : Reg16) (step : Word) (s : State) : State :=
  spend 2 (onCpu (fun c => c.setReg16 r (c.reg16 r + step)) s)

/-- `SP <- SP + e` (R223), flags as in 42_load16_stack.md R173. -/
def addSpOp (e : Byte) (s : State) : State :=
  spend 4 (onCpu (fun c =>
    Cpu.setFlags { c with sp := c.sp + sext16 e } false false (halfCarrySp c.sp e) (carrySp c.sp e)) s)

/-! ### One meaning per row of the opcode table -/

/-- R220: ADD HL,BC. -/
def execAddHlBc (s : State) : Result := .next (addHlOp .bc s)

/-- R220: ADD HL,DE. -/
def execAddHlDe (s : State) : Result := .next (addHlOp .de s)

/-- R220: ADD HL,HL. -/
def execAddHlHl (s : State) : Result := .next (addHlOp .hl s)

/-- R220: ADD HL,SP. -/
def execAddHlSp (s : State) : Result := .next (addHlOp .sp s)

/-- R221: INC BC. -/
def execIncBc (s : State) : Result := .next (step16Op .bc 1#16 s)

/-- R221: INC DE. -/
def execIncDe (s : State) : Result := .next (step16Op .de 1#16 s)

/-- R221: INC HL. -/
def execIncHl (s : State) : Result := .next (step16Op .hl 1#16 s)

/-- R221: INC SP. -/
def execIncSp (s : State) : Result := .next (step16Op .sp 1#16 s)

/-- R222: DEC BC. -/
def execDecBc (s : State) : Result := .next (step16Op .bc 0xFFFF#16 s)

/-- R222: DEC DE. -/
def execDecDe (s : State) : Result := .next (step16Op .de 0xFFFF#16 s)

/-- R222: DEC HL. -/
def execDecHl (s : State) : Result := .next (step16Op .hl 0xFFFF#16 s)

/-- R222: DEC SP. -/
def execDecSp (s : State) : Result := .next (step16Op .sp 0xFFFF#16 s)

/-- R223: ADD SP,e. -/
def execAddSpRel (e : Byte) (s : State) : Result := .next (addSpOp e s)

end Sys2Proof.Machine
end

