-- ==== Sys2Proof/WellFormed.lean ====
section
/-! DEFINITION. Which terms of `Instr` are whole instructions (30_encoding.md R90, R103). -/

namespace Sys2Proof

/-- Every operand value of every row is legal (30_encoding.md R93), so the one check is R103's: the row PREFIX CB "describes the
prefix byte taken alone" and "a decoder uses the `CB_OP` rows and ignores the `PREFIX CB` row". Its two bytes are those of the
`CB_OP` row of its second byte. -/
def Instr.wf : Instr → Bool
  | .prefixCb _ => false
  | _ => true

end Sys2Proof
end

