-- ==== Sys2Proof/Decode.lean ====
section
/-! DEFINITION. The decoder, by the structure of the opcode byte (30_encoding.md R92), and the encoder, from the match column
of the opcode table (R95, R96, R103). -/

namespace Sys2Proof

/-! ### Rows of the table, selected by field codes (R91, R92) -/

/-- `LD r[y],r[z]`, the destination a register, the source a register or `(HL)` (R140, R142). -/
def ldRow : Reg8 → Opnd8 → Instr
  | .b, .reg .b => .ldBB
  | .b, .reg .c => .ldBC
  | .b, .reg .d => .ldBD
  | .b, .reg .e => .ldBE
  | .b, .reg .h => .ldBH
  | .b, .reg .l => .ldBL
  | .b, .reg .a => .ldBA
  | .b, .mHl => .ldBMHl
  | .c, .reg .b => .ldCB
  | .c, .reg .c => .ldCC
  | .c, .reg .d => .ldCD
  | .c, .reg .e => .ldCE
  | .c, .reg .h => .ldCH
  | .c, .reg .l => .ldCL
  | .c, .reg .a => .ldCA
  | .c, .mHl => .ldCMHl
  | .d, .reg .b => .ldDB
  | .d, .reg .c => .ldDC
  | .d, .reg .d => .ldDD
  | .d, .reg .e => .ldDE
  | .d, .reg .h => .ldDH
  | .d, .reg .l => .ldDL
  | .d, .reg .a => .ldDA
  | .d, .mHl => .ldDMHl
  | .e, .reg .b => .ldEB
  | .e, .reg .c => .ldEC
  | .e, .reg .d => .ldED
  | .e, .reg .e => .ldEE
  | .e, .reg .h => .ldEH
  | .e, .reg .l => .ldEL
  | .e, .reg .a => .ldEA
  | .e, .mHl => .ldEMHl
  | .h, .reg .b => .ldHB
  | .h, .reg .c => .ldHC
  | .h, .reg .d => .ldHD
  | .h, .reg .e => .ldHE
  | .h, .reg .h => .ldHH
  | .h, .reg .l => .ldHL
  | .h, .reg .a => .ldHA
  | .h, .mHl => .ldHMHl
  | .l, .reg .b => .ldLB
  | .l, .reg .c => .ldLC
  | .l, .reg .d => .ldLD
  | .l, .reg .e => .ldLE
  | .l, .reg .h => .ldLH
  | .l, .reg .l => .ldLL
  | .l, .reg .a => .ldLA
  | .l, .mHl => .ldLMHl
  | .a, .reg .b => .ldAB
  | .a, .reg .c => .ldAC
  | .a, .reg .d => .ldAD
  | .a, .reg .e => .ldAE
  | .a, .reg .h => .ldAH
  | .a, .reg .l => .ldAL
  | .a, .reg .a => .ldAA
  | .a, .mHl => .ldAMHl

/-- `LD (HL),r[z]` (R143). -/
def ldMHlRow : Reg8 → Instr
  | .b => .ldMHlB
  | .c => .ldMHlC
  | .d => .ldMHlD
  | .e => .ldMHlE
  | .h => .ldMHlH
  | .l => .ldMHlL
  | .a => .ldMHlA

/-- `LD r[y],n`, the destination a register or `(HL)` (R141, R144). -/
def ldImmRow : Opnd8 → Byte → Instr
  | .reg .b, n => .ldBN n
  | .reg .c, n => .ldCN n
  | .reg .d, n => .ldDN n
  | .reg .e, n => .ldEN n
  | .reg .h, n => .ldHN n
  | .reg .l, n => .ldLN n
  | .reg .a, n => .ldAN n
  | .mHl, n => .ldMHlN n

/-- `INC r[y]` (R205, R206). -/
def incRow : Opnd8 → Instr
  | .reg .b => .incB
  | .reg .c => .incC
  | .reg .d => .incD
  | .reg .e => .incE
  | .reg .h => .incH
  | .reg .l => .incL
  | .reg .a => .incA
  | .mHl => .incMHl

/-- `DEC r[y]` (R207, R208). -/
def decRow : Opnd8 → Instr
  | .reg .b => .decB
  | .reg .c => .decC
  | .reg .d => .decD
  | .reg .e => .decE
  | .reg .h => .decH
  | .reg .l => .decL
  | .reg .a => .decA
  | .mHl => .decMHl

/-- `alu[y] A,r[z]` (R181 to R203). -/
def aluRow : Alu → Opnd8 → Instr
  | .add, .reg .b => .addAB
  | .add, .reg .c => .addAC
  | .add, .reg .d => .addAD
  | .add, .reg .e => .addAE
  | .add, .reg .h => .addAH
  | .add, .reg .l => .addAL
  | .add, .reg .a => .addAA
  | .add, .mHl => .addAMHl
  | .adc, .reg .b => .adcAB
  | .adc, .reg .c => .adcAC
  | .adc, .reg .d => .adcAD
  | .adc, .reg .e => .adcAE
  | .adc, .reg .h => .adcAH
  | .adc, .reg .l => .adcAL
  | .adc, .reg .a => .adcAA
  | .adc, .mHl => .adcAMHl
  | .sub, .reg .b => .subB
  | .sub, .reg .c => .subC
  | .sub, .reg .d => .subD
  | .sub, .reg .e => .subE
  | .sub, .reg .h => .subH
  | .sub, .reg .l => .subL
  | .sub, .reg .a => .subA
  | .sub, .mHl => .subMHl
  | .sbc, .reg .b => .sbcAB
  | .sbc, .reg .c => .sbcAC
  | .sbc, .reg .d => .sbcAD
  | .sbc, .reg .e => .sbcAE
  | .sbc, .reg .h => .sbcAH
  | .sbc, .reg .l => .sbcAL
  | .sbc, .reg .a => .sbcAA
  | .sbc, .mHl => .sbcAMHl
  | .and, .reg .b => .andB
  | .and, .reg .c => .andC
  | .and, .reg .d => .andD
  | .and, .reg .e => .andE
  | .and, .reg .h => .andH
  | .and, .reg .l => .andL
  | .and, .reg .a => .andA
  | .and, .mHl => .andMHl
  | .xor, .reg .b => .xorB
  | .xor, .reg .c => .xorC
  | .xor, .reg .d => .xorD
  | .xor, .reg .e => .xorE
  | .xor, .reg .h => .xorH
  | .xor, .reg .l => .xorL
  | .xor, .reg .a => .xorA
  | .xor, .mHl => .xorMHl
  | .or, .reg .b => .orB
  | .or, .reg .c => .orC
  | .or, .reg .d => .orD
  | .or, .reg .e => .orE
  | .or, .reg .h => .orH
  | .or, .reg .l => .orL
  | .or, .reg .a => .orA
  | .or, .mHl => .orMHl
  | .cp, .reg .b => .cpB
  | .cp, .reg .c => .cpC
  | .cp, .reg .d => .cpD
  | .cp, .reg .e => .cpE
  | .cp, .reg .h => .cpH
  | .cp, .reg .l => .cpL
  | .cp, .reg .a => .cpA
  | .cp, .mHl => .cpMHl

/-- `alu[y] A,n` (R183 to R204). -/
def aluImmRow : Alu → Byte → Instr
  | .add, n => .addAN n
  | .adc, n => .adcAN n
  | .sub, n => .subN n
  | .sbc, n => .sbcAN n
  | .and, n => .andN n
  | .xor, n => .xorN n
  | .or, n => .orN n
  | .cp, n => .cpN n

/-- `LD dd[p],nn` (R170). -/
def ld16Row : Reg16 → Word → Instr
  | .bc, nn => .ldBcNn nn
  | .de, nn => .ldDeNn nn
  | .hl, nn => .ldHlNn nn
  | .sp, nn => .ldSpNn nn

/-- `ADD HL,dd[p]` (R220). -/
def addHlRow : Reg16 → Instr
  | .bc => .addHlBc
  | .de => .addHlDe
  | .hl => .addHlHl
  | .sp => .addHlSp

/-- `INC dd[p]` (R221). -/
def inc16Row : Reg16 → Instr
  | .bc => .incBc
  | .de => .incDe
  | .hl => .incHl
  | .sp => .incSp

/-- `DEC dd[p]` (R222). -/
def dec16Row : Reg16 → Instr
  | .bc => .decBc
  | .de => .decDe
  | .hl => .decHl
  | .sp => .decSp

/-- `PUSH qq[p]` (R174). -/
def pushRow : PairQ → Instr
  | .bc => .pushBc
  | .de => .pushDe
  | .hl => .pushHl
  | .af => .pushAf

/-- `POP qq[p]` (R175). -/
def popRow : PairQ → Instr
  | .bc => .popBc
  | .de => .popDe
  | .hl => .popHl
  | .af => .popAf

/-- `JP cc[y],nn` (R241). -/
def jpRow : Cond → Word → Instr
  | .nz, nn => .jpNzNn nn
  | .z, nn => .jpZNn nn
  | .nc, nn => .jpNcNn nn
  | .c, nn => .jpCNn nn

/-- `JR cc,e` (R244). -/
def jrRow : Cond → Byte → Instr
  | .nz, e => .jrNzRel e
  | .z, e => .jrZRel e
  | .nc, e => .jrNcRel e
  | .c, e => .jrCRel e

/-- `CALL cc[y],nn` (R246). -/
def callRow : Cond → Word → Instr
  | .nz, nn => .callNzNn nn
  | .z, nn => .callZNn nn
  | .nc, nn => .callNcNn nn
  | .c, nn => .callCNn nn

/-- `RET cc[y]` (R248). -/
def retRow : Cond → Instr
  | .nz => .retNz
  | .z => .retZ
  | .nc => .retNc
  | .c => .retC

/-- `RST 8y` (R250). -/
def rstRow : Oct → Instr
  | .o0 => .rst00
  | .o1 => .rst08
  | .o2 => .rst10
  | .o3 => .rst18
  | .o4 => .rst20
  | .o5 => .rst28
  | .o6 => .rst30
  | .o7 => .rst38

/-- The undefined opcode bytes (R98, R125). -/
def undefRow : Hole → Instr
  | .d3 => .undefD3
  | .db => .undefDB
  | .dd => .undefDD
  | .e3 => .undefE3
  | .e4 => .undefE4
  | .eb => .undefEB
  | .ec => .undefEC
  | .ed => .undefED
  | .f4 => .undefF4
  | .fc => .undefFC
  | .fd => .undefFD

/-- `rot[y] r[z]` (R261 to R276). -/
def rotRow : Rot → Opnd8 → Instr
  | .rlc, .reg .b => .rlcB
  | .rlc, .reg .c => .rlcC
  | .rlc, .reg .d => .rlcD
  | .rlc, .reg .e => .rlcE
  | .rlc, .reg .h => .rlcH
  | .rlc, .reg .l => .rlcL
  | .rlc, .reg .a => .rlcA
  | .rlc, .mHl => .rlcMHl
  | .rrc, .reg .b => .rrcB
  | .rrc, .reg .c => .rrcC
  | .rrc, .reg .d => .rrcD
  | .rrc, .reg .e => .rrcE
  | .rrc, .reg .h => .rrcH
  | .rrc, .reg .l => .rrcL
  | .rrc, .reg .a => .rrcA
  | .rrc, .mHl => .rrcMHl
  | .rl, .reg .b => .rlB
  | .rl, .reg .c => .rlC
  | .rl, .reg .d => .rlD
  | .rl, .reg .e => .rlE
  | .rl, .reg .h => .rlH
  | .rl, .reg .l => .rlL
  | .rl, .reg .a => .rlA
  | .rl, .mHl => .rlMHl
  | .rr, .reg .b => .rrB
  | .rr, .reg .c => .rrC
  | .rr, .reg .d => .rrD
  | .rr, .reg .e => .rrE
  | .rr, .reg .h => .rrH
  | .rr, .reg .l => .rrL
  | .rr, .reg .a => .rrA
  | .rr, .mHl => .rrMHl
  | .sla, .reg .b => .slaB
  | .sla, .reg .c => .slaC
  | .sla, .reg .d => .slaD
  | .sla, .reg .e => .slaE
  | .sla, .reg .h => .slaH
  | .sla, .reg .l => .slaL
  | .sla, .reg .a => .slaA
  | .sla, .mHl => .slaMHl
  | .sra, .reg .b => .sraB
  | .sra, .reg .c => .sraC
  | .sra, .reg .d => .sraD
  | .sra, .reg .e => .sraE
  | .sra, .reg .h => .sraH
  | .sra, .reg .l => .sraL
  | .sra, .reg .a => .sraA
  | .sra, .mHl => .sraMHl
  | .swap, .reg .b => .swapB
  | .swap, .reg .c => .swapC
  | .swap, .reg .d => .swapD
  | .swap, .reg .e => .swapE
  | .swap, .reg .h => .swapH
  | .swap, .reg .l => .swapL
  | .swap, .reg .a => .swapA
  | .swap, .mHl => .swapMHl
  | .srl, .reg .b => .srlB
  | .srl, .reg .c => .srlC
  | .srl, .reg .d => .srlD
  | .srl, .reg .e => .srlE
  | .srl, .reg .h => .srlH
  | .srl, .reg .l => .srlL
  | .srl, .reg .a => .srlA
  | .srl, .mHl => .srlMHl

/-- `BIT y,r[z]` (R280, R281). -/
def bitRow : Oct → Opnd8 → Instr
  | .o0, .reg .b => .bit0B
  | .o0, .reg .c => .bit0C
  | .o0, .reg .d => .bit0D
  | .o0, .reg .e => .bit0E
  | .o0, .reg .h => .bit0H
  | .o0, .reg .l => .bit0L
  | .o0, .reg .a => .bit0A
  | .o0, .mHl => .bit0MHl
  | .o1, .reg .b => .bit1B
  | .o1, .reg .c => .bit1C
  | .o1, .reg .d => .bit1D
  | .o1, .reg .e => .bit1E
  | .o1, .reg .h => .bit1H
  | .o1, .reg .l => .bit1L
  | .o1, .reg .a => .bit1A
  | .o1, .mHl => .bit1MHl
  | .o2, .reg .b => .bit2B
  | .o2, .reg .c => .bit2C
  | .o2, .reg .d => .bit2D
  | .o2, .reg .e => .bit2E
  | .o2, .reg .h => .bit2H
  | .o2, .reg .l => .bit2L
  | .o2, .reg .a => .bit2A
  | .o2, .mHl => .bit2MHl
  | .o3, .reg .b => .bit3B
  | .o3, .reg .c => .bit3C
  | .o3, .reg .d => .bit3D
  | .o3, .reg .e => .bit3E
  | .o3, .reg .h => .bit3H
  | .o3, .reg .l => .bit3L
  | .o3, .reg .a => .bit3A
  | .o3, .mHl => .bit3MHl
  | .o4, .reg .b => .bit4B
  | .o4, .reg .c => .bit4C
  | .o4, .reg .d => .bit4D
  | .o4, .reg .e => .bit4E
  | .o4, .reg .h => .bit4H
  | .o4, .reg .l => .bit4L
  | .o4, .reg .a => .bit4A
  | .o4, .mHl => .bit4MHl
  | .o5, .reg .b => .bit5B
  | .o5, .reg .c => .bit5C
  | .o5, .reg .d => .bit5D
  | .o5, .reg .e => .bit5E
  | .o5, .reg .h => .bit5H
  | .o5, .reg .l => .bit5L
  | .o5, .reg .a => .bit5A
  | .o5, .mHl => .bit5MHl
  | .o6, .reg .b => .bit6B
  | .o6, .reg .c => .bit6C
  | .o6, .reg .d => .bit6D
  | .o6, .reg .e => .bit6E
  | .o6, .reg .h => .bit6H
  | .o6, .reg .l => .bit6L
  | .o6, .reg .a => .bit6A
  | .o6, .mHl => .bit6MHl
  | .o7, .reg .b => .bit7B
  | .o7, .reg .c => .bit7C
  | .o7, .reg .d => .bit7D
  | .o7, .reg .e => .bit7E
  | .o7, .reg .h => .bit7H
  | .o7, .reg .l => .bit7L
  | .o7, .reg .a => .bit7A
  | .o7, .mHl => .bit7MHl

/-- `RES y,r[z]` (R282, R283). -/
def resRow : Oct → Opnd8 → Instr
  | .o0, .reg .b => .res0B
  | .o0, .reg .c => .res0C
  | .o0, .reg .d => .res0D
  | .o0, .reg .e => .res0E
  | .o0, .reg .h => .res0H
  | .o0, .reg .l => .res0L
  | .o0, .reg .a => .res0A
  | .o0, .mHl => .res0MHl
  | .o1, .reg .b => .res1B
  | .o1, .reg .c => .res1C
  | .o1, .reg .d => .res1D
  | .o1, .reg .e => .res1E
  | .o1, .reg .h => .res1H
  | .o1, .reg .l => .res1L
  | .o1, .reg .a => .res1A
  | .o1, .mHl => .res1MHl
  | .o2, .reg .b => .res2B
  | .o2, .reg .c => .res2C
  | .o2, .reg .d => .res2D
  | .o2, .reg .e => .res2E
  | .o2, .reg .h => .res2H
  | .o2, .reg .l => .res2L
  | .o2, .reg .a => .res2A
  | .o2, .mHl => .res2MHl
  | .o3, .reg .b => .res3B
  | .o3, .reg .c => .res3C
  | .o3, .reg .d => .res3D
  | .o3, .reg .e => .res3E
  | .o3, .reg .h => .res3H
  | .o3, .reg .l => .res3L
  | .o3, .reg .a => .res3A
  | .o3, .mHl => .res3MHl
  | .o4, .reg .b => .res4B
  | .o4, .reg .c => .res4C
  | .o4, .reg .d => .res4D
  | .o4, .reg .e => .res4E
  | .o4, .reg .h => .res4H
  | .o4, .reg .l => .res4L
  | .o4, .reg .a => .res4A
  | .o4, .mHl => .res4MHl
  | .o5, .reg .b => .res5B
  | .o5, .reg .c => .res5C
  | .o5, .reg .d => .res5D
  | .o5, .reg .e => .res5E
  | .o5, .reg .h => .res5H
  | .o5, .reg .l => .res5L
  | .o5, .reg .a => .res5A
  | .o5, .mHl => .res5MHl
  | .o6, .reg .b => .res6B
  | .o6, .reg .c => .res6C
  | .o6, .reg .d => .res6D
  | .o6, .reg .e => .res6E
  | .o6, .reg .h => .res6H
  | .o6, .reg .l => .res6L
  | .o6, .reg .a => .res6A
  | .o6, .mHl => .res6MHl
  | .o7, .reg .b => .res7B
  | .o7, .reg .c => .res7C
  | .o7, .reg .d => .res7D
  | .o7, .reg .e => .res7E
  | .o7, .reg .h => .res7H
  | .o7, .reg .l => .res7L
  | .o7, .reg .a => .res7A
  | .o7, .mHl => .res7MHl

/-- `SET y,r[z]` (R284, R285). -/
def setRow : Oct → Opnd8 → Instr
  | .o0, .reg .b => .set0B
  | .o0, .reg .c => .set0C
  | .o0, .reg .d => .set0D
  | .o0, .reg .e => .set0E
  | .o0, .reg .h => .set0H
  | .o0, .reg .l => .set0L
  | .o0, .reg .a => .set0A
  | .o0, .mHl => .set0MHl
  | .o1, .reg .b => .set1B
  | .o1, .reg .c => .set1C
  | .o1, .reg .d => .set1D
  | .o1, .reg .e => .set1E
  | .o1, .reg .h => .set1H
  | .o1, .reg .l => .set1L
  | .o1, .reg .a => .set1A
  | .o1, .mHl => .set1MHl
  | .o2, .reg .b => .set2B
  | .o2, .reg .c => .set2C
  | .o2, .reg .d => .set2D
  | .o2, .reg .e => .set2E
  | .o2, .reg .h => .set2H
  | .o2, .reg .l => .set2L
  | .o2, .reg .a => .set2A
  | .o2, .mHl => .set2MHl
  | .o3, .reg .b => .set3B
  | .o3, .reg .c => .set3C
  | .o3, .reg .d => .set3D
  | .o3, .reg .e => .set3E
  | .o3, .reg .h => .set3H
  | .o3, .reg .l => .set3L
  | .o3, .reg .a => .set3A
  | .o3, .mHl => .set3MHl
  | .o4, .reg .b => .set4B
  | .o4, .reg .c => .set4C
  | .o4, .reg .d => .set4D
  | .o4, .reg .e => .set4E
  | .o4, .reg .h => .set4H
  | .o4, .reg .l => .set4L
  | .o4, .reg .a => .set4A
  | .o4, .mHl => .set4MHl
  | .o5, .reg .b => .set5B
  | .o5, .reg .c => .set5C
  | .o5, .reg .d => .set5D
  | .o5, .reg .e => .set5E
  | .o5, .reg .h => .set5H
  | .o5, .reg .l => .set5L
  | .o5, .reg .a => .set5A
  | .o5, .mHl => .set5MHl
  | .o6, .reg .b => .set6B
  | .o6, .reg .c => .set6C
  | .o6, .reg .d => .set6D
  | .o6, .reg .e => .set6E
  | .o6, .reg .h => .set6H
  | .o6, .reg .l => .set6L
  | .o6, .reg .a => .set6A
  | .o6, .mHl => .set6MHl
  | .o7, .reg .b => .set7B
  | .o7, .reg .c => .set7C
  | .o7, .reg .d => .set7D
  | .o7, .reg .e => .set7E
  | .o7, .reg .h => .set7H
  | .o7, .reg .l => .set7L
  | .o7, .reg .a => .set7A
  | .o7, .mHl => .set7MHl

/-! ### Field codes (R91) -/

/-- A 3-bit number as a field value. -/
def Oct.ofBits : Nat → Oct
  | 0 => .o0 | 1 => .o1 | 2 => .o2 | 3 => .o3 | 4 => .o4 | 5 => .o5 | 6 => .o6 | _ => .o7

/-- The number a 3-bit field holds. -/
def Oct.val : Oct → Nat
  | .o0 => 0 | .o1 => 1 | .o2 => 2 | .o3 => 3 | .o4 => 4 | .o5 => 5 | .o6 => 6 | .o7 => 7

/-- The field `r`: 0 B, 1 C, 2 D, 3 E, 4 H, 5 L, 6 `(HL)`, 7 A (R91). -/
def Oct.opnd8 : Oct → Opnd8
  | .o0 => .reg .b | .o1 => .reg .c | .o2 => .reg .d | .o3 => .reg .e
  | .o4 => .reg .h | .o5 => .reg .l | .o6 => .mHl | .o7 => .reg .a

/-- The field `alu` (R91). -/
def Oct.alu : Oct → Alu
  | .o0 => .add | .o1 => .adc | .o2 => .sub | .o3 => .sbc | .o4 => .and | .o5 => .xor | .o6 => .or | .o7 => .cp

/-- The field `rot` (R91). -/
def Oct.rot : Oct → Rot
  | .o0 => .rlc | .o1 => .rrc | .o2 => .rl | .o3 => .rr | .o4 => .sla | .o5 => .sra | .o6 => .swap | .o7 => .srl

/-- `LD r[y],r[z]` over both operand fields; y = z = 6 is HALT (R92). -/
def ldHaltRow : Opnd8 → Opnd8 → Instr
  | .reg r, x => ldRow r x
  | .mHl, .reg r => ldMHlRow r
  | .mHl, .mHl => .halt

/-! ### The decoder (R92, R97) -/

/-- The entry of the prefixed map a second opcode byte selects (R92, R96): all 256 are defined (R98). -/
def decodePrefixed (op2 : Byte) : Instr :=
  let y := Oct.ofBits (Machine.field op2 3 3)
  let z := Oct.ofBits (Machine.field op2 0 3)
  match Machine.field op2 6 2 with
  | 0 => rotRow y.rot z.opnd8
  | 1 => bitRow y z.opnd8
  | 2 => resRow y z.opnd8
  | _ => setRow y z.opnd8

/-- Rows 0x00 to 0x3F, `00 yyy zzz` (R92, R95). -/
def decodeX0 (y z : Oct) (n : Byte) (nn : Word) : Instr :=
  match z, y with
  | .o0, .o0 => .nop
  | .o0, .o1 => .ldMNnSp nn
  | .o0, .o2 => .stop n
  | .o0, .o3 => .jrRel n
  | .o0, .o4 => jrRow .nz n
  | .o0, .o5 => jrRow .z n
  | .o0, .o6 => jrRow .nc n
  | .o0, .o7 => jrRow .c n
  | .o1, .o0 => ld16Row .bc nn
  | .o1, .o1 => addHlRow .bc
  | .o1, .o2 => ld16Row .de nn
  | .o1, .o3 => addHlRow .de
  | .o1, .o4 => ld16Row .hl nn
  | .o1, .o5 => addHlRow .hl
  | .o1, .o6 => ld16Row .sp nn
  | .o1, .o7 => addHlRow .sp
  | .o2, .o0 => .ldMBcA
  | .o2, .o1 => .ldAMBc
  | .o2, .o2 => .ldMDeA
  | .o2, .o3 => .ldAMDe
  | .o2, .o4 => .ldMHlIncA
  | .o2, .o5 => .ldAMHlInc
  | .o2, .o6 => .ldMHlDecA
  | .o2, .o7 => .ldAMHlDec
  | .o3, .o0 => inc16Row .bc
  | .o3, .o1 => dec16Row .bc
  | .o3, .o2 => inc16Row .de
  | .o3, .o3 => dec16Row .de
  | .o3, .o4 => inc16Row .hl
  | .o3, .o5 => dec16Row .hl
  | .o3, .o6 => inc16Row .sp
  | .o3, .o7 => dec16Row .sp
  | .o4, y => incRow y.opnd8
  | .o5, y => decRow y.opnd8
  | .o6, y => ldImmRow y.opnd8 n
  | .o7, .o0 => .rlca
  | .o7, .o1 => .rrca
  | .o7, .o2 => .rla
  | .o7, .o3 => .rra
  | .o7, .o4 => .daa
  | .o7, .o5 => .cpl
  | .o7, .o6 => .scf
  | .o7, .o7 => .ccf

/-- Rows 0xC0 to 0xFF, `11 yyy zzz` (R92, R95); 0xCB is the prefix and `n` is then the second opcode byte (R97). -/
def decodeX3 (y z : Oct) (n : Byte) (nn : Word) : Instr :=
  match z, y with
  | .o0, .o0 => retRow .nz
  | .o0, .o1 => retRow .z
  | .o0, .o2 => retRow .nc
  | .o0, .o3 => retRow .c
  | .o0, .o4 => .ldhMNA n
  | .o0, .o5 => .addSpRel n
  | .o0, .o6 => .ldhAMN n
  | .o0, .o7 => .ldHlSpE n
  | .o1, .o0 => popRow .bc
  | .o1, .o1 => .ret
  | .o1, .o2 => popRow .de
  | .o1, .o3 => .reti
  | .o1, .o4 => popRow .hl
  | .o1, .o5 => .jpHl
  | .o1, .o6 => popRow .af
  | .o1, .o7 => .ldSpHl
  | .o2, .o0 => jpRow .nz nn
  | .o2, .o1 => jpRow .z nn
  | .o2, .o2 => jpRow .nc nn
  | .o2, .o3 => jpRow .c nn
  | .o2, .o4 => .ldhMCA
  | .o2, .o5 => .ldMNnA nn
  | .o2, .o6 => .ldhAMC
  | .o2, .o7 => .ldAMNn nn
  | .o3, .o0 => .jpNn nn
  | .o3, .o1 => decodePrefixed n
  | .o3, .o2 => undefRow .d3
  | .o3, .o3 => undefRow .db
  | .o3, .o4 => undefRow .e3
  | .o3, .o5 => undefRow .eb
  | .o3, .o6 => .di
  | .o3, .o7 => .ei
  | .o4, .o0 => callRow .nz nn
  | .o4, .o1 => callRow .z nn
  | .o4, .o2 => callRow .nc nn
  | .o4, .o3 => callRow .c nn
  | .o4, .o4 => undefRow .e4
  | .o4, .o5 => undefRow .ec
  | .o4, .o6 => undefRow .f4
  | .o4, .o7 => undefRow .fc
  | .o5, .o0 => pushRow .bc
  | .o5, .o1 => .callNn nn
  | .o5, .o2 => pushRow .de
  | .o5, .o3 => undefRow .dd
  | .o5, .o4 => pushRow .hl
  | .o5, .o5 => undefRow .ed
  | .o5, .o6 => pushRow .af
  | .o5, .o7 => undefRow .fd
  | .o6, y => aluImmRow y.alu n
  | .o7, y => rstRow y

/-- The instruction whose first byte is `b0` when the two bytes after it are `b1` and `b2` (R90, R93, R97): total, since every
byte value has an entry (R98, 40_engine_system.md R117). It never gives the row PREFIX CB, which R103 tells a decoder to
ignore. -/
def decodeBytes (b0 b1 b2 : Byte) : Instr :=
  let y := Oct.ofBits (Machine.field b0 3 3)
  let z := Oct.ofBits (Machine.field b0 0 3)
  match Machine.field b0 6 2 with
  | 0 => decodeX0 y z b1 (Machine.join b2 b1)
  | 1 => ldHaltRow y.opnd8 z.opnd8
  | 2 => aluRow y.alu z.opnd8
  | _ => decodeX3 y z b1 (Machine.join b2 b1)

/-! ### The encoder (R95, R96, R103) -/

/-- The bytes of an instruction, in the order they are fetched (R90, R93). -/
def encode : Instr → List Byte
  | .nop => [0x00#8]
  | .ldBcNn nn => [0x01#8, Machine.loByte nn, Machine.hiByte nn]
  | .ldMBcA => [0x02#8]
  | .incBc => [0x03#8]
  | .incB => [0x04#8]
  | .decB => [0x05#8]
  | .ldBN n => [0x06#8, n]
  | .rlca => [0x07#8]
  | .ldMNnSp nn => [0x08#8, Machine.loByte nn, Machine.hiByte nn]
  | .addHlBc => [0x09#8]
  | .ldAMBc => [0x0A#8]
  | .decBc => [0x0B#8]
  | .incC => [0x0C#8]
  | .decC => [0x0D#8]
  | .ldCN n => [0x0E#8, n]
  | .rrca => [0x0F#8]
  | .stop n => [0x10#8, n]
  | .ldDeNn nn => [0x11#8, Machine.loByte nn, Machine.hiByte nn]
  | .ldMDeA => [0x12#8]
  | .incDe => [0x13#8]
  | .incD => [0x14#8]
  | .decD => [0x15#8]
  | .ldDN n => [0x16#8, n]
  | .rla => [0x17#8]
  | .jrRel e => [0x18#8, e]
  | .addHlDe => [0x19#8]
  | .ldAMDe => [0x1A#8]
  | .decDe => [0x1B#8]
  | .incE => [0x1C#8]
  | .decE => [0x1D#8]
  | .ldEN n => [0x1E#8, n]
  | .rra => [0x1F#8]
  | .jrNzRel e => [0x20#8, e]
  | .ldHlNn nn => [0x21#8, Machine.loByte nn, Machine.hiByte nn]
  | .ldMHlIncA => [0x22#8]
  | .incHl => [0x23#8]
  | .incH => [0x24#8]
  | .decH => [0x25#8]
  | .ldHN n => [0x26#8, n]
  | .daa => [0x27#8]
  | .jrZRel e => [0x28#8, e]
  | .addHlHl => [0x29#8]
  | .ldAMHlInc => [0x2A#8]
  | .decHl => [0x2B#8]
  | .incL => [0x2C#8]
  | .decL => [0x2D#8]
  | .ldLN n => [0x2E#8, n]
  | .cpl => [0x2F#8]
  | .jrNcRel e => [0x30#8, e]
  | .ldSpNn nn => [0x31#8, Machine.loByte nn, Machine.hiByte nn]
  | .ldMHlDecA => [0x32#8]
  | .incSp => [0x33#8]
  | .incMHl => [0x34#8]
  | .decMHl => [0x35#8]
  | .ldMHlN n => [0x36#8, n]
  | .scf => [0x37#8]
  | .jrCRel e => [0x38#8, e]
  | .addHlSp => [0x39#8]
  | .ldAMHlDec => [0x3A#8]
  | .decSp => [0x3B#8]
  | .incA => [0x3C#8]
  | .decA => [0x3D#8]
  | .ldAN n => [0x3E#8, n]
  | .ccf => [0x3F#8]
  | .ldBB => [0x40#8]
  | .ldBC => [0x41#8]
  | .ldBD => [0x42#8]
  | .ldBE => [0x43#8]
  | .ldBH => [0x44#8]
  | .ldBL => [0x45#8]
  | .ldBMHl => [0x46#8]
  | .ldBA => [0x47#8]
  | .ldCB => [0x48#8]
  | .ldCC => [0x49#8]
  | .ldCD => [0x4A#8]
  | .ldCE => [0x4B#8]
  | .ldCH => [0x4C#8]
  | .ldCL => [0x4D#8]
  | .ldCMHl => [0x4E#8]
  | .ldCA => [0x4F#8]
  | .ldDB => [0x50#8]
  | .ldDC => [0x51#8]
  | .ldDD => [0x52#8]
  | .ldDE => [0x53#8]
  | .ldDH => [0x54#8]
  | .ldDL => [0x55#8]
  | .ldDMHl => [0x56#8]
  | .ldDA => [0x57#8]
  | .ldEB => [0x58#8]
  | .ldEC => [0x59#8]
  | .ldED => [0x5A#8]
  | .ldEE => [0x5B#8]
  | .ldEH => [0x5C#8]
  | .ldEL => [0x5D#8]
  | .ldEMHl => [0x5E#8]
  | .ldEA => [0x5F#8]
  | .ldHB => [0x60#8]
  | .ldHC => [0x61#8]
  | .ldHD => [0x62#8]
  | .ldHE => [0x63#8]
  | .ldHH => [0x64#8]
  | .ldHL => [0x65#8]
  | .ldHMHl => [0x66#8]
  | .ldHA => [0x67#8]
  | .ldLB => [0x68#8]
  | .ldLC => [0x69#8]
  | .ldLD => [0x6A#8]
  | .ldLE => [0x6B#8]
  | .ldLH => [0x6C#8]
  | .ldLL => [0x6D#8]
  | .ldLMHl => [0x6E#8]
  | .ldLA => [0x6F#8]
  | .ldMHlB => [0x70#8]
  | .ldMHlC => [0x71#8]
  | .ldMHlD => [0x72#8]
  | .ldMHlE => [0x73#8]
  | .ldMHlH => [0x74#8]
  | .ldMHlL => [0x75#8]
  | .halt => [0x76#8]
  | .ldMHlA => [0x77#8]
  | .ldAB => [0x78#8]
  | .ldAC => [0x79#8]
  | .ldAD => [0x7A#8]
  | .ldAE => [0x7B#8]
  | .ldAH => [0x7C#8]
  | .ldAL => [0x7D#8]
  | .ldAMHl => [0x7E#8]
  | .ldAA => [0x7F#8]
  | .addAB => [0x80#8]
  | .addAC => [0x81#8]
  | .addAD => [0x82#8]
  | .addAE => [0x83#8]
  | .addAH => [0x84#8]
  | .addAL => [0x85#8]
  | .addAMHl => [0x86#8]
  | .addAA => [0x87#8]
  | .adcAB => [0x88#8]
  | .adcAC => [0x89#8]
  | .adcAD => [0x8A#8]
  | .adcAE => [0x8B#8]
  | .adcAH => [0x8C#8]
  | .adcAL => [0x8D#8]
  | .adcAMHl => [0x8E#8]
  | .adcAA => [0x8F#8]
  | .subB => [0x90#8]
  | .subC => [0x91#8]
  | .subD => [0x92#8]
  | .subE => [0x93#8]
  | .subH => [0x94#8]
  | .subL => [0x95#8]
  | .subMHl => [0x96#8]
  | .subA => [0x97#8]
  | .sbcAB => [0x98#8]
  | .sbcAC => [0x99#8]
  | .sbcAD => [0x9A#8]
  | .sbcAE => [0x9B#8]
  | .sbcAH => [0x9C#8]
  | .sbcAL => [0x9D#8]
  | .sbcAMHl => [0x9E#8]
  | .sbcAA => [0x9F#8]
  | .andB => [0xA0#8]
  | .andC => [0xA1#8]
  | .andD => [0xA2#8]
  | .andE => [0xA3#8]
  | .andH => [0xA4#8]
  | .andL => [0xA5#8]
  | .andMHl => [0xA6#8]
  | .andA => [0xA7#8]
  | .xorB => [0xA8#8]
  | .xorC => [0xA9#8]
  | .xorD => [0xAA#8]
  | .xorE => [0xAB#8]
  | .xorH => [0xAC#8]
  | .xorL => [0xAD#8]
  | .xorMHl => [0xAE#8]
  | .xorA => [0xAF#8]
  | .orB => [0xB0#8]
  | .orC => [0xB1#8]
  | .orD => [0xB2#8]
  | .orE => [0xB3#8]
  | .orH => [0xB4#8]
  | .orL => [0xB5#8]
  | .orMHl => [0xB6#8]
  | .orA => [0xB7#8]
  | .cpB => [0xB8#8]
  | .cpC => [0xB9#8]
  | .cpD => [0xBA#8]
  | .cpE => [0xBB#8]
  | .cpH => [0xBC#8]
  | .cpL => [0xBD#8]
  | .cpMHl => [0xBE#8]
  | .cpA => [0xBF#8]
  | .retNz => [0xC0#8]
  | .popBc => [0xC1#8]
  | .jpNzNn nn => [0xC2#8, Machine.loByte nn, Machine.hiByte nn]
  | .jpNn nn => [0xC3#8, Machine.loByte nn, Machine.hiByte nn]
  | .callNzNn nn => [0xC4#8, Machine.loByte nn, Machine.hiByte nn]
  | .pushBc => [0xC5#8]
  | .addAN n => [0xC6#8, n]
  | .rst00 => [0xC7#8]
  | .retZ => [0xC8#8]
  | .ret => [0xC9#8]
  | .jpZNn nn => [0xCA#8, Machine.loByte nn, Machine.hiByte nn]
  | .prefixCb op2 => [0xCB#8, op2]
  | .callZNn nn => [0xCC#8, Machine.loByte nn, Machine.hiByte nn]
  | .callNn nn => [0xCD#8, Machine.loByte nn, Machine.hiByte nn]
  | .adcAN n => [0xCE#8, n]
  | .rst08 => [0xCF#8]
  | .retNc => [0xD0#8]
  | .popDe => [0xD1#8]
  | .jpNcNn nn => [0xD2#8, Machine.loByte nn, Machine.hiByte nn]
  | .undefD3 => [0xD3#8]
  | .callNcNn nn => [0xD4#8, Machine.loByte nn, Machine.hiByte nn]
  | .pushDe => [0xD5#8]
  | .subN n => [0xD6#8, n]
  | .rst10 => [0xD7#8]
  | .retC => [0xD8#8]
  | .reti => [0xD9#8]
  | .jpCNn nn => [0xDA#8, Machine.loByte nn, Machine.hiByte nn]
  | .undefDB => [0xDB#8]
  | .callCNn nn => [0xDC#8, Machine.loByte nn, Machine.hiByte nn]
  | .undefDD => [0xDD#8]
  | .sbcAN n => [0xDE#8, n]
  | .rst18 => [0xDF#8]
  | .ldhMNA n => [0xE0#8, n]
  | .popHl => [0xE1#8]
  | .ldhMCA => [0xE2#8]
  | .undefE3 => [0xE3#8]
  | .undefE4 => [0xE4#8]
  | .pushHl => [0xE5#8]
  | .andN n => [0xE6#8, n]
  | .rst20 => [0xE7#8]
  | .addSpRel e => [0xE8#8, e]
  | .jpHl => [0xE9#8]
  | .ldMNnA nn => [0xEA#8, Machine.loByte nn, Machine.hiByte nn]
  | .undefEB => [0xEB#8]
  | .undefEC => [0xEC#8]
  | .undefED => [0xED#8]
  | .xorN n => [0xEE#8, n]
  | .rst28 => [0xEF#8]
  | .ldhAMN n => [0xF0#8, n]
  | .popAf => [0xF1#8]
  | .ldhAMC => [0xF2#8]
  | .di => [0xF3#8]
  | .undefF4 => [0xF4#8]
  | .pushAf => [0xF5#8]
  | .orN n => [0xF6#8, n]
  | .rst30 => [0xF7#8]
  | .ldHlSpE e => [0xF8#8, e]
  | .ldSpHl => [0xF9#8]
  | .ldAMNn nn => [0xFA#8, Machine.loByte nn, Machine.hiByte nn]
  | .ei => [0xFB#8]
  | .undefFC => [0xFC#8]
  | .undefFD => [0xFD#8]
  | .cpN n => [0xFE#8, n]
  | .rst38 => [0xFF#8]
  | .rlcB => [0xCB#8, 0x00#8]
  | .rlcC => [0xCB#8, 0x01#8]
  | .rlcD => [0xCB#8, 0x02#8]
  | .rlcE => [0xCB#8, 0x03#8]
  | .rlcH => [0xCB#8, 0x04#8]
  | .rlcL => [0xCB#8, 0x05#8]
  | .rlcMHl => [0xCB#8, 0x06#8]
  | .rlcA => [0xCB#8, 0x07#8]
  | .rrcB => [0xCB#8, 0x08#8]
  | .rrcC => [0xCB#8, 0x09#8]
  | .rrcD => [0xCB#8, 0x0A#8]
  | .rrcE => [0xCB#8, 0x0B#8]
  | .rrcH => [0xCB#8, 0x0C#8]
  | .rrcL => [0xCB#8, 0x0D#8]
  | .rrcMHl => [0xCB#8, 0x0E#8]
  | .rrcA => [0xCB#8, 0x0F#8]
  | .rlB => [0xCB#8, 0x10#8]
  | .rlC => [0xCB#8, 0x11#8]
  | .rlD => [0xCB#8, 0x12#8]
  | .rlE => [0xCB#8, 0x13#8]
  | .rlH => [0xCB#8, 0x14#8]
  | .rlL => [0xCB#8, 0x15#8]
  | .rlMHl => [0xCB#8, 0x16#8]
  | .rlA => [0xCB#8, 0x17#8]
  | .rrB => [0xCB#8, 0x18#8]
  | .rrC => [0xCB#8, 0x19#8]
  | .rrD => [0xCB#8, 0x1A#8]
  | .rrE => [0xCB#8, 0x1B#8]
  | .rrH => [0xCB#8, 0x1C#8]
  | .rrL => [0xCB#8, 0x1D#8]
  | .rrMHl => [0xCB#8, 0x1E#8]
  | .rrA => [0xCB#8, 0x1F#8]
  | .slaB => [0xCB#8, 0x20#8]
  | .slaC => [0xCB#8, 0x21#8]
  | .slaD => [0xCB#8, 0x22#8]
  | .slaE => [0xCB#8, 0x23#8]
  | .slaH => [0xCB#8, 0x24#8]
  | .slaL => [0xCB#8, 0x25#8]
  | .slaMHl => [0xCB#8, 0x26#8]
  | .slaA => [0xCB#8, 0x27#8]
  | .sraB => [0xCB#8, 0x28#8]
  | .sraC => [0xCB#8, 0x29#8]
  | .sraD => [0xCB#8, 0x2A#8]
  | .sraE => [0xCB#8, 0x2B#8]
  | .sraH => [0xCB#8, 0x2C#8]
  | .sraL => [0xCB#8, 0x2D#8]
  | .sraMHl => [0xCB#8, 0x2E#8]
  | .sraA => [0xCB#8, 0x2F#8]
  | .swapB => [0xCB#8, 0x30#8]
  | .swapC => [0xCB#8, 0x31#8]
  | .swapD => [0xCB#8, 0x32#8]
  | .swapE => [0xCB#8, 0x33#8]
  | .swapH => [0xCB#8, 0x34#8]
  | .swapL => [0xCB#8, 0x35#8]
  | .swapMHl => [0xCB#8, 0x36#8]
  | .swapA => [0xCB#8, 0x37#8]
  | .srlB => [0xCB#8, 0x38#8]
  | .srlC => [0xCB#8, 0x39#8]
  | .srlD => [0xCB#8, 0x3A#8]
  | .srlE => [0xCB#8, 0x3B#8]
  | .srlH => [0xCB#8, 0x3C#8]
  | .srlL => [0xCB#8, 0x3D#8]
  | .srlMHl => [0xCB#8, 0x3E#8]
  | .srlA => [0xCB#8, 0x3F#8]
  | .bit0B => [0xCB#8, 0x40#8]
  | .bit0C => [0xCB#8, 0x41#8]
  | .bit0D => [0xCB#8, 0x42#8]
  | .bit0E => [0xCB#8, 0x43#8]
  | .bit0H => [0xCB#8, 0x44#8]
  | .bit0L => [0xCB#8, 0x45#8]
  | .bit0MHl => [0xCB#8, 0x46#8]
  | .bit0A => [0xCB#8, 0x47#8]
  | .bit1B => [0xCB#8, 0x48#8]
  | .bit1C => [0xCB#8, 0x49#8]
  | .bit1D => [0xCB#8, 0x4A#8]
  | .bit1E => [0xCB#8, 0x4B#8]
  | .bit1H => [0xCB#8, 0x4C#8]
  | .bit1L => [0xCB#8, 0x4D#8]
  | .bit1MHl => [0xCB#8, 0x4E#8]
  | .bit1A => [0xCB#8, 0x4F#8]
  | .bit2B => [0xCB#8, 0x50#8]
  | .bit2C => [0xCB#8, 0x51#8]
  | .bit2D => [0xCB#8, 0x52#8]
  | .bit2E => [0xCB#8, 0x53#8]
  | .bit2H => [0xCB#8, 0x54#8]
  | .bit2L => [0xCB#8, 0x55#8]
  | .bit2MHl => [0xCB#8, 0x56#8]
  | .bit2A => [0xCB#8, 0x57#8]
  | .bit3B => [0xCB#8, 0x58#8]
  | .bit3C => [0xCB#8, 0x59#8]
  | .bit3D => [0xCB#8, 0x5A#8]
  | .bit3E => [0xCB#8, 0x5B#8]
  | .bit3H => [0xCB#8, 0x5C#8]
  | .bit3L => [0xCB#8, 0x5D#8]
  | .bit3MHl => [0xCB#8, 0x5E#8]
  | .bit3A => [0xCB#8, 0x5F#8]
  | .bit4B => [0xCB#8, 0x60#8]
  | .bit4C => [0xCB#8, 0x61#8]
  | .bit4D => [0xCB#8, 0x62#8]
  | .bit4E => [0xCB#8, 0x63#8]
  | .bit4H => [0xCB#8, 0x64#8]
  | .bit4L => [0xCB#8, 0x65#8]
  | .bit4MHl => [0xCB#8, 0x66#8]
  | .bit4A => [0xCB#8, 0x67#8]
  | .bit5B => [0xCB#8, 0x68#8]
  | .bit5C => [0xCB#8, 0x69#8]
  | .bit5D => [0xCB#8, 0x6A#8]
  | .bit5E => [0xCB#8, 0x6B#8]
  | .bit5H => [0xCB#8, 0x6C#8]
  | .bit5L => [0xCB#8, 0x6D#8]
  | .bit5MHl => [0xCB#8, 0x6E#8]
  | .bit5A => [0xCB#8, 0x6F#8]
  | .bit6B => [0xCB#8, 0x70#8]
  | .bit6C => [0xCB#8, 0x71#8]
  | .bit6D => [0xCB#8, 0x72#8]
  | .bit6E => [0xCB#8, 0x73#8]
  | .bit6H => [0xCB#8, 0x74#8]
  | .bit6L => [0xCB#8, 0x75#8]
  | .bit6MHl => [0xCB#8, 0x76#8]
  | .bit6A => [0xCB#8, 0x77#8]
  | .bit7B => [0xCB#8, 0x78#8]
  | .bit7C => [0xCB#8, 0x79#8]
  | .bit7D => [0xCB#8, 0x7A#8]
  | .bit7E => [0xCB#8, 0x7B#8]
  | .bit7H => [0xCB#8, 0x7C#8]
  | .bit7L => [0xCB#8, 0x7D#8]
  | .bit7MHl => [0xCB#8, 0x7E#8]
  | .bit7A => [0xCB#8, 0x7F#8]
  | .res0B => [0xCB#8, 0x80#8]
  | .res0C => [0xCB#8, 0x81#8]
  | .res0D => [0xCB#8, 0x82#8]
  | .res0E => [0xCB#8, 0x83#8]
  | .res0H => [0xCB#8, 0x84#8]
  | .res0L => [0xCB#8, 0x85#8]
  | .res0MHl => [0xCB#8, 0x86#8]
  | .res0A => [0xCB#8, 0x87#8]
  | .res1B => [0xCB#8, 0x88#8]
  | .res1C => [0xCB#8, 0x89#8]
  | .res1D => [0xCB#8, 0x8A#8]
  | .res1E => [0xCB#8, 0x8B#8]
  | .res1H => [0xCB#8, 0x8C#8]
  | .res1L => [0xCB#8, 0x8D#8]
  | .res1MHl => [0xCB#8, 0x8E#8]
  | .res1A => [0xCB#8, 0x8F#8]
  | .res2B => [0xCB#8, 0x90#8]
  | .res2C => [0xCB#8, 0x91#8]
  | .res2D => [0xCB#8, 0x92#8]
  | .res2E => [0xCB#8, 0x93#8]
  | .res2H => [0xCB#8, 0x94#8]
  | .res2L => [0xCB#8, 0x95#8]
  | .res2MHl => [0xCB#8, 0x96#8]
  | .res2A => [0xCB#8, 0x97#8]
  | .res3B => [0xCB#8, 0x98#8]
  | .res3C => [0xCB#8, 0x99#8]
  | .res3D => [0xCB#8, 0x9A#8]
  | .res3E => [0xCB#8, 0x9B#8]
  | .res3H => [0xCB#8, 0x9C#8]
  | .res3L => [0xCB#8, 0x9D#8]
  | .res3MHl => [0xCB#8, 0x9E#8]
  | .res3A => [0xCB#8, 0x9F#8]
  | .res4B => [0xCB#8, 0xA0#8]
  | .res4C => [0xCB#8, 0xA1#8]
  | .res4D => [0xCB#8, 0xA2#8]
  | .res4E => [0xCB#8, 0xA3#8]
  | .res4H => [0xCB#8, 0xA4#8]
  | .res4L => [0xCB#8, 0xA5#8]
  | .res4MHl => [0xCB#8, 0xA6#8]
  | .res4A => [0xCB#8, 0xA7#8]
  | .res5B => [0xCB#8, 0xA8#8]
  | .res5C => [0xCB#8, 0xA9#8]
  | .res5D => [0xCB#8, 0xAA#8]
  | .res5E => [0xCB#8, 0xAB#8]
  | .res5H => [0xCB#8, 0xAC#8]
  | .res5L => [0xCB#8, 0xAD#8]
  | .res5MHl => [0xCB#8, 0xAE#8]
  | .res5A => [0xCB#8, 0xAF#8]
  | .res6B => [0xCB#8, 0xB0#8]
  | .res6C => [0xCB#8, 0xB1#8]
  | .res6D => [0xCB#8, 0xB2#8]
  | .res6E => [0xCB#8, 0xB3#8]
  | .res6H => [0xCB#8, 0xB4#8]
  | .res6L => [0xCB#8, 0xB5#8]
  | .res6MHl => [0xCB#8, 0xB6#8]
  | .res6A => [0xCB#8, 0xB7#8]
  | .res7B => [0xCB#8, 0xB8#8]
  | .res7C => [0xCB#8, 0xB9#8]
  | .res7D => [0xCB#8, 0xBA#8]
  | .res7E => [0xCB#8, 0xBB#8]
  | .res7H => [0xCB#8, 0xBC#8]
  | .res7L => [0xCB#8, 0xBD#8]
  | .res7MHl => [0xCB#8, 0xBE#8]
  | .res7A => [0xCB#8, 0xBF#8]
  | .set0B => [0xCB#8, 0xC0#8]
  | .set0C => [0xCB#8, 0xC1#8]
  | .set0D => [0xCB#8, 0xC2#8]
  | .set0E => [0xCB#8, 0xC3#8]
  | .set0H => [0xCB#8, 0xC4#8]
  | .set0L => [0xCB#8, 0xC5#8]
  | .set0MHl => [0xCB#8, 0xC6#8]
  | .set0A => [0xCB#8, 0xC7#8]
  | .set1B => [0xCB#8, 0xC8#8]
  | .set1C => [0xCB#8, 0xC9#8]
  | .set1D => [0xCB#8, 0xCA#8]
  | .set1E => [0xCB#8, 0xCB#8]
  | .set1H => [0xCB#8, 0xCC#8]
  | .set1L => [0xCB#8, 0xCD#8]
  | .set1MHl => [0xCB#8, 0xCE#8]
  | .set1A => [0xCB#8, 0xCF#8]
  | .set2B => [0xCB#8, 0xD0#8]
  | .set2C => [0xCB#8, 0xD1#8]
  | .set2D => [0xCB#8, 0xD2#8]
  | .set2E => [0xCB#8, 0xD3#8]
  | .set2H => [0xCB#8, 0xD4#8]
  | .set2L => [0xCB#8, 0xD5#8]
  | .set2MHl => [0xCB#8, 0xD6#8]
  | .set2A => [0xCB#8, 0xD7#8]
  | .set3B => [0xCB#8, 0xD8#8]
  | .set3C => [0xCB#8, 0xD9#8]
  | .set3D => [0xCB#8, 0xDA#8]
  | .set3E => [0xCB#8, 0xDB#8]
  | .set3H => [0xCB#8, 0xDC#8]
  | .set3L => [0xCB#8, 0xDD#8]
  | .set3MHl => [0xCB#8, 0xDE#8]
  | .set3A => [0xCB#8, 0xDF#8]
  | .set4B => [0xCB#8, 0xE0#8]
  | .set4C => [0xCB#8, 0xE1#8]
  | .set4D => [0xCB#8, 0xE2#8]
  | .set4E => [0xCB#8, 0xE3#8]
  | .set4H => [0xCB#8, 0xE4#8]
  | .set4L => [0xCB#8, 0xE5#8]
  | .set4MHl => [0xCB#8, 0xE6#8]
  | .set4A => [0xCB#8, 0xE7#8]
  | .set5B => [0xCB#8, 0xE8#8]
  | .set5C => [0xCB#8, 0xE9#8]
  | .set5D => [0xCB#8, 0xEA#8]
  | .set5E => [0xCB#8, 0xEB#8]
  | .set5H => [0xCB#8, 0xEC#8]
  | .set5L => [0xCB#8, 0xED#8]
  | .set5MHl => [0xCB#8, 0xEE#8]
  | .set5A => [0xCB#8, 0xEF#8]
  | .set6B => [0xCB#8, 0xF0#8]
  | .set6C => [0xCB#8, 0xF1#8]
  | .set6D => [0xCB#8, 0xF2#8]
  | .set6E => [0xCB#8, 0xF3#8]
  | .set6H => [0xCB#8, 0xF4#8]
  | .set6L => [0xCB#8, 0xF5#8]
  | .set6MHl => [0xCB#8, 0xF6#8]
  | .set6A => [0xCB#8, 0xF7#8]
  | .set7B => [0xCB#8, 0xF8#8]
  | .set7C => [0xCB#8, 0xF9#8]
  | .set7D => [0xCB#8, 0xFA#8]
  | .set7E => [0xCB#8, 0xFB#8]
  | .set7H => [0xCB#8, 0xFC#8]
  | .set7L => [0xCB#8, 0xFD#8]
  | .set7MHl => [0xCB#8, 0xFE#8]
  | .set7A => [0xCB#8, 0xFF#8]

/-- The length of an instruction in bytes (R90). -/
def Instr.length (i : Instr) : Nat := (encode i).length

/-- Why a list of bytes is no instruction. -/
inductive DecodeError where
  /-- There is no first byte. -/
  | noBytes
  /-- The first byte (or 0xCB and its second byte) announces more operand bytes than there are. -/
  | truncated
  deriving DecidableEq, Repr

/-- The bytes that follow an instruction of length `n`. -/
def afterBytes : Nat → List Byte → Option (List Byte)
  | 0, bs => some bs
  | _ + 1, [] => none
  | n + 1, _ :: bs => afterBytes n bs

/-- Decode the first instruction of a list of bytes, and the bytes after it; a list that ends too early is rejected by name. -/
def decode (bs : List Byte) : Except DecodeError (Instr × List Byte) :=
  match bs with
  | [] => .error .noBytes
  | b0 :: rest =>
    let i := decodeBytes b0 (rest.getD 0 0#8) (rest.getD 1 0#8)
    match afterBytes i.length bs with
    | some after => .ok (i, after)
    | none => .error .truncated

/-! ### The opcode table's numbering of bits (R103) -/

/-- The three bytes at the program counter that a word of `nbits` bits stands for, the first byte first. Byte 0 is bits 7:0 and
later bytes count on from it, but for a `CB_OP` row, whose 16 table bits are `byte0 :: byte1` (R103), that is 0xCB in bits 15:8
(log entry 15). -/
def tableBytes (nbits w : Nat) : Byte × Byte × Byte :=
  let v := w % 2 ^ nbits
  if nbits = 16 ∧ v / 256 = 0xCB then (0xCB#8, BitVec.ofNat 8 v, 0#8)
  else (BitVec.ofNat 8 v, BitVec.ofNat 8 (v / 256), BitVec.ofNat 8 (v / 65536))

/-- The instruction the decoder reads from a word of `nbits` bits, every bit above them 0. -/
def decodeTableWord (nbits w : Nat) : Option Instr :=
  let b := tableBytes nbits w
  some (decodeBytes b.1 b.2.1 b.2.2)

end Sys2Proof
end

