-- ==== Sys2Proof/Machine/Control.lean ====
section
/-! DEFINITION. Jumps, calls and returns (46_control.md R240 to R250). PC stands after the instruction's bytes when a meaning runs. -/

namespace Sys2Proof.Machine

/-! ### The shared operations -/

/-- `PC <- a`. -/
def goto (a : Word) (s : State) : State := onCpu (fun c => { c with pc := a }) s

/-- `push16(PC); PC <- a` (R245, R250). -/
def callTo (a : Word) (s : State) : State := goto a (push16 s.cpu.pc s)

/-- `PC <- pop16()` (R247). -/
def popPc (s : State) : State := onCpu (fun c => { dropTop c with pc := popValue s }) s

/-- A conditional form: its taken effect and cost, or only its untaken cost. -/
def ifCond (cc : Cond) (taken : State → State) (takenCost untakenCost : Nat) (s : State) : State :=
  if s.cpu.cond cc then spend takenCost (taken s) else spend untakenCost s

/-- JP (R240 to R242). -/
def jpOp (nn : Word) (s : State) : State := spend 4 (goto nn s)
def jpCcOp (cc : Cond) (nn : Word) (s : State) : State := ifCond cc (goto nn) 4 3 s
def jpHlOp (s : State) : State := spend 1 (goto s.cpu.hl s)

/-- The relative jump's effect (R243): from the address of the next instruction. -/
def jumpRel (e : Byte) (s : State) : State := goto (relTarget s.cpu.pc e) s

/-- JR (R243, R244). -/
def jrOp (e : Byte) (s : State) : State := spend 3 (jumpRel e s)
def jrCcOp (cc : Cond) (e : Byte) (s : State) : State := ifCond cc (jumpRel e) 3 2 s

/-- CALL (R245, R246). -/
def callOp (nn : Word) (s : State) : State := spend 6 (callTo nn s)
def callCcOp (cc : Cond) (nn : Word) (s : State) : State := ifCond cc (callTo nn) 6 3 s

/-- RET (R247, R248) and RETI (R249). -/
def retOp (s : State) : State := spend 4 (popPc s)
def retCcOp (cc : Cond) (s : State) : State := ifCond cc popPc 5 2 s
def retiOp (s : State) : State := spend 4 (returnFromInterrupt s)

/-- RST (R250): `PC <- 8 * t`. -/
def rstOp (t : Oct) (s : State) : State := spend 4 (callTo (BitVec.ofNat 16 (8 * t.val)) s)

/-! ### One meaning per row of the opcode table -/

/-- R240: JP nn. -/
def execJpNn (nn : Word) (s : State) : Result := .next (jpOp nn s)

/-- R242: JP HL. -/
def execJpHl (s : State) : Result := .next (jpHlOp s)

/-- R243: JR e. -/
def execJrRel (e : Byte) (s : State) : Result := .next (jrOp e s)

/-- R245: CALL nn. -/
def execCallNn (nn : Word) (s : State) : Result := .next (callOp nn s)

/-- R247: RET. -/
def execRet (s : State) : Result := .next (retOp s)

/-- R249: RETI. -/
def execReti (s : State) : Result := .next (retiOp s)

/-- R241: JP NZ,nn. -/
def execJpNzNn (nn : Word) (s : State) : Result := .next (jpCcOp .nz nn s)

/-- R241: JP Z,nn. -/
def execJpZNn (nn : Word) (s : State) : Result := .next (jpCcOp .z nn s)

/-- R241: JP NC,nn. -/
def execJpNcNn (nn : Word) (s : State) : Result := .next (jpCcOp .nc nn s)

/-- R241: JP C,nn. -/
def execJpCNn (nn : Word) (s : State) : Result := .next (jpCcOp .c nn s)

/-- R244: JR NZ,e. -/
def execJrNzRel (e : Byte) (s : State) : Result := .next (jrCcOp .nz e s)

/-- R244: JR Z,e. -/
def execJrZRel (e : Byte) (s : State) : Result := .next (jrCcOp .z e s)

/-- R244: JR NC,e. -/
def execJrNcRel (e : Byte) (s : State) : Result := .next (jrCcOp .nc e s)

/-- R244: JR C,e. -/
def execJrCRel (e : Byte) (s : State) : Result := .next (jrCcOp .c e s)

/-- R246: CALL NZ,nn. -/
def execCallNzNn (nn : Word) (s : State) : Result := .next (callCcOp .nz nn s)

/-- R246: CALL Z,nn. -/
def execCallZNn (nn : Word) (s : State) : Result := .next (callCcOp .z nn s)

/-- R246: CALL NC,nn. -/
def execCallNcNn (nn : Word) (s : State) : Result := .next (callCcOp .nc nn s)

/-- R246: CALL C,nn. -/
def execCallCNn (nn : Word) (s : State) : Result := .next (callCcOp .c nn s)

/-- R248: RET NZ. -/
def execRetNz (s : State) : Result := .next (retCcOp .nz s)

/-- R248: RET Z. -/
def execRetZ (s : State) : Result := .next (retCcOp .z s)

/-- R248: RET NC. -/
def execRetNc (s : State) : Result := .next (retCcOp .nc s)

/-- R248: RET C. -/
def execRetC (s : State) : Result := .next (retCcOp .c s)

/-- R250: RST 0x00. -/
def execRst00 (s : State) : Result := .next (rstOp .o0 s)

/-- R250: RST 0x08. -/
def execRst08 (s : State) : Result := .next (rstOp .o1 s)

/-- R250: RST 0x10. -/
def execRst10 (s : State) : Result := .next (rstOp .o2 s)

/-- R250: RST 0x18. -/
def execRst18 (s : State) : Result := .next (rstOp .o3 s)

/-- R250: RST 0x20. -/
def execRst20 (s : State) : Result := .next (rstOp .o4 s)

/-- R250: RST 0x28. -/
def execRst28 (s : State) : Result := .next (rstOp .o5 s)

/-- R250: RST 0x30. -/
def execRst30 (s : State) : Result := .next (rstOp .o6 s)

/-- R250: RST 0x38. -/
def execRst38 (s : State) : Result := .next (rstOp .o7 s)

end Sys2Proof.Machine
end

