-- ==== Sys2Proof/Machine/Load16.lean ====
section
/-! DEFINITION. The 16-bit loads and the stack instructions (42_load16_stack.md R170 to R175). -/

namespace Sys2Proof.Machine

/-! ### The shared operations -/

/-- `xx_dd[p] <- nn` (R170). -/
def ld16Op (r : Reg16) (nn : Word) (s : State) : State := spend 3 (onCpu (fun c => c.setReg16 r nn) s)

/-- `MemWrite(nn, 2, SP)` (R171). -/
def ldMSpOp (nn : Word) (s : State) : State := spend 5 (wr16 nn s.cpu.sp s)

/-- `SP <- HL` (R172). -/
def ldSpHlOp (s : State) : State := spend 2 (onCpu (fun c => { c with sp := c.hl }) s)

/-- `HL <- SP + e` (R173): Z and N cleared, H and C from SP's low byte and the unsigned byte e. -/
def ldHlSpOp (e : Byte) (s : State) : State :=
  spend 3 (onCpu (fun c =>
    (c.setHl (c.sp + sext16 e)).setFlags false false (halfCarrySp c.sp e) (carrySp c.sp e)) s)

/-- `push16(xx_qq[p])` (R174). -/
def pushOp (r : PairQ) (s : State) : State := spend 4 (push16 (s.cpu.pairQ r) s)

/-- `xx_qq[p] <- pop16()` (R175). -/
def popOp (r : PairQ) (s : State) : State := spend 3 (onCpu (fun c => (dropTop c).setPairQ r (popValue s)) s)

/-! ### One meaning per row of the opcode table -/

/-- R170: LD BC,nn. -/
def execLdBcNn (nn : Word) (s : State) : Result := .next (ld16Op .bc nn s)

/-- R170: LD DE,nn. -/
def execLdDeNn (nn : Word) (s : State) : Result := .next (ld16Op .de nn s)

/-- R170: LD HL,nn. -/
def execLdHlNn (nn : Word) (s : State) : Result := .next (ld16Op .hl nn s)

/-- R170: LD SP,nn. -/
def execLdSpNn (nn : Word) (s : State) : Result := .next (ld16Op .sp nn s)

/-- R171: LD (nn),SP. -/
def execLdMNnSp (nn : Word) (s : State) : Result := .next (ldMSpOp nn s)

/-- R172: LD SP,HL. -/
def execLdSpHl (s : State) : Result := .next (ldSpHlOp s)

/-- R173: LD HL,SP+e. -/
def execLdHlSpE (e : Byte) (s : State) : Result := .next (ldHlSpOp e s)

/-- R174: PUSH BC. -/
def execPushBc (s : State) : Result := .next (pushOp .bc s)

/-- R174: PUSH DE. -/
def execPushDe (s : State) : Result := .next (pushOp .de s)

/-- R174: PUSH HL. -/
def execPushHl (s : State) : Result := .next (pushOp .hl s)

/-- R174: PUSH AF. -/
def execPushAf (s : State) : Result := .next (pushOp .af s)

/-- R175: POP BC. -/
def execPopBc (s : State) : Result := .next (popOp .bc s)

/-- R175: POP DE. -/
def execPopDe (s : State) : Result := .next (popOp .de s)

/-- R175: POP HL. -/
def execPopHl (s : State) : Result := .next (popOp .hl s)

/-- R175: POP AF. -/
def execPopAf (s : State) : Result := .next (popOp .af s)

end Sys2Proof.Machine
end

