-- ==== Sys2Proof/Machine/Load8.lean ====
section
/-! DEFINITION. The 8-bit loads (41_load8.md R140 to R158). None changes a flag. -/

namespace Sys2Proof.Machine

/-! ### The shared operations -/

/-- The cost of an instruction with an 8-bit operand: `r` for a register, `m` for `(HL)` (30_encoding.md R95, R96). -/
def opCost (x : Opnd8) (r m : Nat) : Nat :=
  match x with
  | .reg _ => r
  | .mHl => m

/-- `x[y] <- ` an operand (R140, R142). -/
def ldOp (r : Reg8) (x : Opnd8) (s : State) : State :=
  spend (opCost x 1 2) (onCpu (fun c => c.setReg r (operand s x)) s)

/-- `wr8(HL, x[z])` (R143). -/
def ldMHlOp (r : Reg8) (s : State) : State := spend 2 (wr8 s.cpu.hl (s.cpu.reg r) s)

/-- An operand `<- n` (R141, R144). -/
def ldImmOp (x : Opnd8) (n : Byte) (s : State) : State := spend (opCost x 2 3) (setOperand x n s)

/-- `A <- rd8(a)`, at a cost (R145, R146, R149, R151, R153). -/
def ldAFrom (a : Word) (cost : Nat) (s : State) : State :=
  spend cost (onCpu (fun c => { c with a := rd8 s a }) s)

/-- `wr8(a, A)`, at a cost (R147, R148, R150, R152, R154). -/
def ldATo (a : Word) (cost : Nat) (s : State) : State := spend cost (wr8 a s.cpu.a s)

/-- `A <- rd8(HL); HL <- HL + step` (R156, R158). -/
def ldAFromHl (step : Word) (s : State) : State :=
  spend 2 (onCpu (fun c => Cpu.setHl { c with a := rd8 s c.hl } (c.hl + step)) s)

/-- `wr8(HL, A); HL <- HL + step` (R155, R157): HL moves even when the store is discarded. -/
def ldAToHl (step : Word) (s : State) : State :=
  spend 2 (onCpu (fun c => c.setHl (c.hl + step)) (wr8 s.cpu.hl s.cpu.a s))

/-- `LD A,(BC)` to `LDH (n),A`: the addresses of R145 to R154, each taken from the registers before the access. -/
def ldABc (s : State) : State := ldAFrom s.cpu.bc 2 s
def ldADe (s : State) : State := ldAFrom s.cpu.de 2 s
def ldBcA (s : State) : State := ldATo s.cpu.bc 2 s
def ldDeA (s : State) : State := ldATo s.cpu.de 2 s
def ldhACOp (s : State) : State := ldAFrom (highPage s.cpu.c) 2 s
def ldhCAOp (s : State) : State := ldATo (highPage s.cpu.c) 2 s

/-! ### One meaning per row of the opcode table -/

/-- R140: LD B,B. -/
def execLdBB (s : State) : Result := .next (ldOp .b (.reg .b) s)

/-- R140: LD B,C. -/
def execLdBC (s : State) : Result := .next (ldOp .b (.reg .c) s)

/-- R140: LD B,D. -/
def execLdBD (s : State) : Result := .next (ldOp .b (.reg .d) s)

/-- R140: LD B,E. -/
def execLdBE (s : State) : Result := .next (ldOp .b (.reg .e) s)

/-- R140: LD B,H. -/
def execLdBH (s : State) : Result := .next (ldOp .b (.reg .h) s)

/-- R140: LD B,L. -/
def execLdBL (s : State) : Result := .next (ldOp .b (.reg .l) s)

/-- R140: LD B,A. -/
def execLdBA (s : State) : Result := .next (ldOp .b (.reg .a) s)

/-- R142: LD B,(HL). -/
def execLdBMHl (s : State) : Result := .next (ldOp .b .mHl s)

/-- R140: LD C,B. -/
def execLdCB (s : State) : Result := .next (ldOp .c (.reg .b) s)

/-- R140: LD C,C. -/
def execLdCC (s : State) : Result := .next (ldOp .c (.reg .c) s)

/-- R140: LD C,D. -/
def execLdCD (s : State) : Result := .next (ldOp .c (.reg .d) s)

/-- R140: LD C,E. -/
def execLdCE (s : State) : Result := .next (ldOp .c (.reg .e) s)

/-- R140: LD C,H. -/
def execLdCH (s : State) : Result := .next (ldOp .c (.reg .h) s)

/-- R140: LD C,L. -/
def execLdCL (s : State) : Result := .next (ldOp .c (.reg .l) s)

/-- R140: LD C,A. -/
def execLdCA (s : State) : Result := .next (ldOp .c (.reg .a) s)

/-- R142: LD C,(HL). -/
def execLdCMHl (s : State) : Result := .next (ldOp .c .mHl s)

/-- R140: LD D,B. -/
def execLdDB (s : State) : Result := .next (ldOp .d (.reg .b) s)

/-- R140: LD D,C. -/
def execLdDC (s : State) : Result := .next (ldOp .d (.reg .c) s)

/-- R140: LD D,D. -/
def execLdDD (s : State) : Result := .next (ldOp .d (.reg .d) s)

/-- R140: LD D,E. -/
def execLdDE (s : State) : Result := .next (ldOp .d (.reg .e) s)

/-- R140: LD D,H. -/
def execLdDH (s : State) : Result := .next (ldOp .d (.reg .h) s)

/-- R140: LD D,L. -/
def execLdDL (s : State) : Result := .next (ldOp .d (.reg .l) s)

/-- R140: LD D,A. -/
def execLdDA (s : State) : Result := .next (ldOp .d (.reg .a) s)

/-- R142: LD D,(HL). -/
def execLdDMHl (s : State) : Result := .next (ldOp .d .mHl s)

/-- R140: LD E,B. -/
def execLdEB (s : State) : Result := .next (ldOp .e (.reg .b) s)

/-- R140: LD E,C. -/
def execLdEC (s : State) : Result := .next (ldOp .e (.reg .c) s)

/-- R140: LD E,D. -/
def execLdED (s : State) : Result := .next (ldOp .e (.reg .d) s)

/-- R140: LD E,E. -/
def execLdEE (s : State) : Result := .next (ldOp .e (.reg .e) s)

/-- R140: LD E,H. -/
def execLdEH (s : State) : Result := .next (ldOp .e (.reg .h) s)

/-- R140: LD E,L. -/
def execLdEL (s : State) : Result := .next (ldOp .e (.reg .l) s)

/-- R140: LD E,A. -/
def execLdEA (s : State) : Result := .next (ldOp .e (.reg .a) s)

/-- R142: LD E,(HL). -/
def execLdEMHl (s : State) : Result := .next (ldOp .e .mHl s)

/-- R140: LD H,B. -/
def execLdHB (s : State) : Result := .next (ldOp .h (.reg .b) s)

/-- R140: LD H,C. -/
def execLdHC (s : State) : Result := .next (ldOp .h (.reg .c) s)

/-- R140: LD H,D. -/
def execLdHD (s : State) : Result := .next (ldOp .h (.reg .d) s)

/-- R140: LD H,E. -/
def execLdHE (s : State) : Result := .next (ldOp .h (.reg .e) s)

/-- R140: LD H,H. -/
def execLdHH (s : State) : Result := .next (ldOp .h (.reg .h) s)

/-- R140: LD H,L. -/
def execLdHL (s : State) : Result := .next (ldOp .h (.reg .l) s)

/-- R140: LD H,A. -/
def execLdHA (s : State) : Result := .next (ldOp .h (.reg .a) s)

/-- R142: LD H,(HL). -/
def execLdHMHl (s : State) : Result := .next (ldOp .h .mHl s)

/-- R140: LD L,B. -/
def execLdLB (s : State) : Result := .next (ldOp .l (.reg .b) s)

/-- R140: LD L,C. -/
def execLdLC (s : State) : Result := .next (ldOp .l (.reg .c) s)

/-- R140: LD L,D. -/
def execLdLD (s : State) : Result := .next (ldOp .l (.reg .d) s)

/-- R140: LD L,E. -/
def execLdLE (s : State) : Result := .next (ldOp .l (.reg .e) s)

/-- R140: LD L,H. -/
def execLdLH (s : State) : Result := .next (ldOp .l (.reg .h) s)

/-- R140: LD L,L. -/
def execLdLL (s : State) : Result := .next (ldOp .l (.reg .l) s)

/-- R140: LD L,A. -/
def execLdLA (s : State) : Result := .next (ldOp .l (.reg .a) s)

/-- R142: LD L,(HL). -/
def execLdLMHl (s : State) : Result := .next (ldOp .l .mHl s)

/-- R140: LD A,B. -/
def execLdAB (s : State) : Result := .next (ldOp .a (.reg .b) s)

/-- R140: LD A,C. -/
def execLdAC (s : State) : Result := .next (ldOp .a (.reg .c) s)

/-- R140: LD A,D. -/
def execLdAD (s : State) : Result := .next (ldOp .a (.reg .d) s)

/-- R140: LD A,E. -/
def execLdAE (s : State) : Result := .next (ldOp .a (.reg .e) s)

/-- R140: LD A,H. -/
def execLdAH (s : State) : Result := .next (ldOp .a (.reg .h) s)

/-- R140: LD A,L. -/
def execLdAL (s : State) : Result := .next (ldOp .a (.reg .l) s)

/-- R140: LD A,A. -/
def execLdAA (s : State) : Result := .next (ldOp .a (.reg .a) s)

/-- R142: LD A,(HL). -/
def execLdAMHl (s : State) : Result := .next (ldOp .a .mHl s)

/-- R143: LD (HL),B. -/
def execLdMHlB (s : State) : Result := .next (ldMHlOp .b s)

/-- R143: LD (HL),C. -/
def execLdMHlC (s : State) : Result := .next (ldMHlOp .c s)

/-- R143: LD (HL),D. -/
def execLdMHlD (s : State) : Result := .next (ldMHlOp .d s)

/-- R143: LD (HL),E. -/
def execLdMHlE (s : State) : Result := .next (ldMHlOp .e s)

/-- R143: LD (HL),H. -/
def execLdMHlH (s : State) : Result := .next (ldMHlOp .h s)

/-- R143: LD (HL),L. -/
def execLdMHlL (s : State) : Result := .next (ldMHlOp .l s)

/-- R143: LD (HL),A. -/
def execLdMHlA (s : State) : Result := .next (ldMHlOp .a s)

/-- R141: LD B,n. -/
def execLdBN (n : Byte) (s : State) : Result := .next (ldImmOp (.reg .b) n s)

/-- R141: LD C,n. -/
def execLdCN (n : Byte) (s : State) : Result := .next (ldImmOp (.reg .c) n s)

/-- R141: LD D,n. -/
def execLdDN (n : Byte) (s : State) : Result := .next (ldImmOp (.reg .d) n s)

/-- R141: LD E,n. -/
def execLdEN (n : Byte) (s : State) : Result := .next (ldImmOp (.reg .e) n s)

/-- R141: LD H,n. -/
def execLdHN (n : Byte) (s : State) : Result := .next (ldImmOp (.reg .h) n s)

/-- R141: LD L,n. -/
def execLdLN (n : Byte) (s : State) : Result := .next (ldImmOp (.reg .l) n s)

/-- R141: LD A,n. -/
def execLdAN (n : Byte) (s : State) : Result := .next (ldImmOp (.reg .a) n s)

/-- R144: LD (HL),n. -/
def execLdMHlN (n : Byte) (s : State) : Result := .next (ldImmOp .mHl n s)

/-- R145: LD A,(BC). -/
def execLdAMBc (s : State) : Result := .next (ldABc s)

/-- R146: LD A,(DE). -/
def execLdAMDe (s : State) : Result := .next (ldADe s)

/-- R147: LD (BC),A. -/
def execLdMBcA (s : State) : Result := .next (ldBcA s)

/-- R148: LD (DE),A. -/
def execLdMDeA (s : State) : Result := .next (ldDeA s)

/-- R149: LD A,(nn). -/
def execLdAMNn (nn : Word) (s : State) : Result := .next (ldAFrom nn 4 s)

/-- R150: LD (nn),A. -/
def execLdMNnA (nn : Word) (s : State) : Result := .next (ldATo nn 4 s)

/-- R151: LDH A,(C). -/
def execLdhAMC (s : State) : Result := .next (ldhACOp s)

/-- R152: LDH (C),A. -/
def execLdhMCA (s : State) : Result := .next (ldhCAOp s)

/-- R153: LDH A,(n). -/
def execLdhAMN (n : Byte) (s : State) : Result := .next (ldAFrom (highPage n) 3 s)

/-- R154: LDH (n),A. -/
def execLdhMNA (n : Byte) (s : State) : Result := .next (ldATo (highPage n) 3 s)

/-- R155: LD (HL+),A. -/
def execLdMHlIncA (s : State) : Result := .next (ldAToHl 1#16 s)

/-- R156: LD A,(HL+). -/
def execLdAMHlInc (s : State) : Result := .next (ldAFromHl 1#16 s)

/-- R157: LD (HL-),A. -/
def execLdMHlDecA (s : State) : Result := .next (ldAToHl 0xFFFF#16 s)

/-- R158: LD A,(HL-). -/
def execLdAMHlDec (s : State) : Result := .next (ldAFromHl 0xFFFF#16 s)

end Sys2Proof.Machine
end

