-- ==== Sys2Proof/Machine/BitOps.lean ====
section
/-! DEFINITION. Prefixed bit test, reset and set (48_cb_bit.md R280 to R285). -/

namespace Sys2Proof.Machine

/-! ### The shared operations -/

/-- BIT (R280, R281): Z the complement of the tested bit, N cleared, H set, C unchanged. -/
def bitOp (b : Oct) (x : Opnd8) (s : State) : State :=
  spend (opCost x 2 3) (onCpu (fun c => c.setFlags (!bit (operand s x) b.val) false true c.fC) s)

/-- RES (R282, R283). -/
def resOp (b : Oct) (x : Opnd8) (s : State) : State :=
  spend (opCost x 2 4) (setOperand x (clearBit (operand s x) b.val) s)

/-- SET (R284, R285). -/
def setOp (b : Oct) (x : Opnd8) (s : State) : State :=
  spend (opCost x 2 4) (setOperand x (setBit (operand s x) b.val) s)

/-! ### One meaning per row of the opcode table -/

/-- R280: BIT 0,B. -/
def execBit0B (s : State) : Result := .next (bitOp .o0 (.reg .b) s)

/-- R280: BIT 0,C. -/
def execBit0C (s : State) : Result := .next (bitOp .o0 (.reg .c) s)

/-- R280: BIT 0,D. -/
def execBit0D (s : State) : Result := .next (bitOp .o0 (.reg .d) s)

/-- R280: BIT 0,E. -/
def execBit0E (s : State) : Result := .next (bitOp .o0 (.reg .e) s)

/-- R280: BIT 0,H. -/
def execBit0H (s : State) : Result := .next (bitOp .o0 (.reg .h) s)

/-- R280: BIT 0,L. -/
def execBit0L (s : State) : Result := .next (bitOp .o0 (.reg .l) s)

/-- R280: BIT 0,A. -/
def execBit0A (s : State) : Result := .next (bitOp .o0 (.reg .a) s)

/-- R281: BIT 0,(HL). -/
def execBit0MHl (s : State) : Result := .next (bitOp .o0 .mHl s)

/-- R280: BIT 1,B. -/
def execBit1B (s : State) : Result := .next (bitOp .o1 (.reg .b) s)

/-- R280: BIT 1,C. -/
def execBit1C (s : State) : Result := .next (bitOp .o1 (.reg .c) s)

/-- R280: BIT 1,D. -/
def execBit1D (s : State) : Result := .next (bitOp .o1 (.reg .d) s)

/-- R280: BIT 1,E. -/
def execBit1E (s : State) : Result := .next (bitOp .o1 (.reg .e) s)

/-- R280: BIT 1,H. -/
def execBit1H (s : State) : Result := .next (bitOp .o1 (.reg .h) s)

/-- R280: BIT 1,L. -/
def execBit1L (s : State) : Result := .next (bitOp .o1 (.reg .l) s)

/-- R280: BIT 1,A. -/
def execBit1A (s : State) : Result := .next (bitOp .o1 (.reg .a) s)

/-- R281: BIT 1,(HL). -/
def execBit1MHl (s : State) : Result := .next (bitOp .o1 .mHl s)

/-- R280: BIT 2,B. -/
def execBit2B (s : State) : Result := .next (bitOp .o2 (.reg .b) s)

/-- R280: BIT 2,C. -/
def execBit2C (s : State) : Result := .next (bitOp .o2 (.reg .c) s)

/-- R280: BIT 2,D. -/
def execBit2D (s : State) : Result := .next (bitOp .o2 (.reg .d) s)

/-- R280: BIT 2,E. -/
def execBit2E (s : State) : Result := .next (bitOp .o2 (.reg .e) s)

/-- R280: BIT 2,H. -/
def execBit2H (s : State) : Result := .next (bitOp .o2 (.reg .h) s)

/-- R280: BIT 2,L. -/
def execBit2L (s : State) : Result := .next (bitOp .o2 (.reg .l) s)

/-- R280: BIT 2,A. -/
def execBit2A (s : State) : Result := .next (bitOp .o2 (.reg .a) s)

/-- R281: BIT 2,(HL). -/
def execBit2MHl (s : State) : Result := .next (bitOp .o2 .mHl s)

/-- R280: BIT 3,B. -/
def execBit3B (s : State) : Result := .next (bitOp .o3 (.reg .b) s)

/-- R280: BIT 3,C. -/
def execBit3C (s : State) : Result := .next (bitOp .o3 (.reg .c) s)

/-- R280: BIT 3,D. -/
def execBit3D (s : State) : Result := .next (bitOp .o3 (.reg .d) s)

/-- R280: BIT 3,E. -/
def execBit3E (s : State) : Result := .next (bitOp .o3 (.reg .e) s)

/-- R280: BIT 3,H. -/
def execBit3H (s : State) : Result := .next (bitOp .o3 (.reg .h) s)

/-- R280: BIT 3,L. -/
def execBit3L (s : State) : Result := .next (bitOp .o3 (.reg .l) s)

/-- R280: BIT 3,A. -/
def execBit3A (s : State) : Result := .next (bitOp .o3 (.reg .a) s)

/-- R281: BIT 3,(HL). -/
def execBit3MHl (s : State) : Result := .next (bitOp .o3 .mHl s)

/-- R280: BIT 4,B. -/
def execBit4B (s : State) : Result := .next (bitOp .o4 (.reg .b) s)

/-- R280: BIT 4,C. -/
def execBit4C (s : State) : Result := .next (bitOp .o4 (.reg .c) s)

/-- R280: BIT 4,D. -/
def execBit4D (s : State) : Result := .next (bitOp .o4 (.reg .d) s)

/-- R280: BIT 4,E. -/
def execBit4E (s : State) : Result := .next (bitOp .o4 (.reg .e) s)

/-- R280: BIT 4,H. -/
def execBit4H (s : State) : Result := .next (bitOp .o4 (.reg .h) s)

/-- R280: BIT 4,L. -/
def execBit4L (s : State) : Result := .next (bitOp .o4 (.reg .l) s)

/-- R280: BIT 4,A. -/
def execBit4A (s : State) : Result := .next (bitOp .o4 (.reg .a) s)

/-- R281: BIT 4,(HL). -/
def execBit4MHl (s : State) : Result := .next (bitOp .o4 .mHl s)

/-- R280: BIT 5,B. -/
def execBit5B (s : State) : Result := .next (bitOp .o5 (.reg .b) s)

/-- R280: BIT 5,C. -/
def execBit5C (s : State) : Result := .next (bitOp .o5 (.reg .c) s)

/-- R280: BIT 5,D. -/
def execBit5D (s : State) : Result := .next (bitOp .o5 (.reg .d) s)

/-- R280: BIT 5,E. -/
def execBit5E (s : State) : Result := .next (bitOp .o5 (.reg .e) s)

/-- R280: BIT 5,H. -/
def execBit5H (s : State) : Result := .next (bitOp .o5 (.reg .h) s)

/-- R280: BIT 5,L. -/
def execBit5L (s : State) : Result := .next (bitOp .o5 (.reg .l) s)

/-- R280: BIT 5,A. -/
def execBit5A (s : State) : Result := .next (bitOp .o5 (.reg .a) s)

/-- R281: BIT 5,(HL). -/
def execBit5MHl (s : State) : Result := .next (bitOp .o5 .mHl s)

/-- R280: BIT 6,B. -/
def execBit6B (s : State) : Result := .next (bitOp .o6 (.reg .b) s)

/-- R280: BIT 6,C. -/
def execBit6C (s : State) : Result := .next (bitOp .o6 (.reg .c) s)

/-- R280: BIT 6,D. -/
def execBit6D (s : State) : Result := .next (bitOp .o6 (.reg .d) s)

/-- R280: BIT 6,E. -/
def execBit6E (s : State) : Result := .next (bitOp .o6 (.reg .e) s)

/-- R280: BIT 6,H. -/
def execBit6H (s : State) : Result := .next (bitOp .o6 (.reg .h) s)

/-- R280: BIT 6,L. -/
def execBit6L (s : State) : Result := .next (bitOp .o6 (.reg .l) s)

/-- R280: BIT 6,A. -/
def execBit6A (s : State) : Result := .next (bitOp .o6 (.reg .a) s)

/-- R281: BIT 6,(HL). -/
def execBit6MHl (s : State) : Result := .next (bitOp .o6 .mHl s)

/-- R280: BIT 7,B. -/
def execBit7B (s : State) : Result := .next (bitOp .o7 (.reg .b) s)

/-- R280: BIT 7,C. -/
def execBit7C (s : State) : Result := .next (bitOp .o7 (.reg .c) s)

/-- R280: BIT 7,D. -/
def execBit7D (s : State) : Result := .next (bitOp .o7 (.reg .d) s)

/-- R280: BIT 7,E. -/
def execBit7E (s : State) : Result := .next (bitOp .o7 (.reg .e) s)

/-- R280: BIT 7,H. -/
def execBit7H (s : State) : Result := .next (bitOp .o7 (.reg .h) s)

/-- R280: BIT 7,L. -/
def execBit7L (s : State) : Result := .next (bitOp .o7 (.reg .l) s)

/-- R280: BIT 7,A. -/
def execBit7A (s : State) : Result := .next (bitOp .o7 (.reg .a) s)

/-- R281: BIT 7,(HL). -/
def execBit7MHl (s : State) : Result := .next (bitOp .o7 .mHl s)

/-- R282: RES 0,B. -/
def execRes0B (s : State) : Result := .next (resOp .o0 (.reg .b) s)

/-- R282: RES 0,C. -/
def execRes0C (s : State) : Result := .next (resOp .o0 (.reg .c) s)

/-- R282: RES 0,D. -/
def execRes0D (s : State) : Result := .next (resOp .o0 (.reg .d) s)

/-- R282: RES 0,E. -/
def execRes0E (s : State) : Result := .next (resOp .o0 (.reg .e) s)

/-- R282: RES 0,H. -/
def execRes0H (s : State) : Result := .next (resOp .o0 (.reg .h) s)

/-- R282: RES 0,L. -/
def execRes0L (s : State) : Result := .next (resOp .o0 (.reg .l) s)

/-- R282: RES 0,A. -/
def execRes0A (s : State) : Result := .next (resOp .o0 (.reg .a) s)

/-- R283: RES 0,(HL). -/
def execRes0MHl (s : State) : Result := .next (resOp .o0 .mHl s)

/-- R282: RES 1,B. -/
def execRes1B (s : State) : Result := .next (resOp .o1 (.reg .b) s)

/-- R282: RES 1,C. -/
def execRes1C (s : State) : Result := .next (resOp .o1 (.reg .c) s)

/-- R282: RES 1,D. -/
def execRes1D (s : State) : Result := .next (resOp .o1 (.reg .d) s)

/-- R282: RES 1,E. -/
def execRes1E (s : State) : Result := .next (resOp .o1 (.reg .e) s)

/-- R282: RES 1,H. -/
def execRes1H (s : State) : Result := .next (resOp .o1 (.reg .h) s)

/-- R282: RES 1,L. -/
def execRes1L (s : State) : Result := .next (resOp .o1 (.reg .l) s)

/-- R282: RES 1,A. -/
def execRes1A (s : State) : Result := .next (resOp .o1 (.reg .a) s)

/-- R283: RES 1,(HL). -/
def execRes1MHl (s : State) : Result := .next (resOp .o1 .mHl s)

/-- R282: RES 2,B. -/
def execRes2B (s : State) : Result := .next (resOp .o2 (.reg .b) s)

/-- R282: RES 2,C. -/
def execRes2C (s : State) : Result := .next (resOp .o2 (.reg .c) s)

/-- R282: RES 2,D. -/
def execRes2D (s : State) : Result := .next (resOp .o2 (.reg .d) s)

/-- R282: RES 2,E. -/
def execRes2E (s : State) : Result := .next (resOp .o2 (.reg .e) s)

/-- R282: RES 2,H. -/
def execRes2H (s : State) : Result := .next (resOp .o2 (.reg .h) s)

/-- R282: RES 2,L. -/
def execRes2L (s : State) : Result := .next (resOp .o2 (.reg .l) s)

/-- R282: RES 2,A. -/
def execRes2A (s : State) : Result := .next (resOp .o2 (.reg .a) s)

/-- R283: RES 2,(HL). -/
def execRes2MHl (s : State) : Result := .next (resOp .o2 .mHl s)

/-- R282: RES 3,B. -/
def execRes3B (s : State) : Result := .next (resOp .o3 (.reg .b) s)

/-- R282: RES 3,C. -/
def execRes3C (s : State) : Result := .next (resOp .o3 (.reg .c) s)

/-- R282: RES 3,D. -/
def execRes3D (s : State) : Result := .next (resOp .o3 (.reg .d) s)

/-- R282: RES 3,E. -/
def execRes3E (s : State) : Result := .next (resOp .o3 (.reg .e) s)

/-- R282: RES 3,H. -/
def execRes3H (s : State) : Result := .next (resOp .o3 (.reg .h) s)

/-- R282: RES 3,L. -/
def execRes3L (s : State) : Result := .next (resOp .o3 (.reg .l) s)

/-- R282: RES 3,A. -/
def execRes3A (s : State) : Result := .next (resOp .o3 (.reg .a) s)

/-- R283: RES 3,(HL). -/
def execRes3MHl (s : State) : Result := .next (resOp .o3 .mHl s)

/-- R282: RES 4,B. -/
def execRes4B (s : State) : Result := .next (resOp .o4 (.reg .b) s)

/-- R282: RES 4,C. -/
def execRes4C (s : State) : Result := .next (resOp .o4 (.reg .c) s)

/-- R282: RES 4,D. -/
def execRes4D (s : State) : Result := .next (resOp .o4 (.reg .d) s)

/-- R282: RES 4,E. -/
def execRes4E (s : State) : Result := .next (resOp .o4 (.reg .e) s)

/-- R282: RES 4,H. -/
def execRes4H (s : State) : Result := .next (resOp .o4 (.reg .h) s)

/-- R282: RES 4,L. -/
def execRes4L (s : State) : Result := .next (resOp .o4 (.reg .l) s)

/-- R282: RES 4,A. -/
def execRes4A (s : State) : Result := .next (resOp .o4 (.reg .a) s)

/-- R283: RES 4,(HL). -/
def execRes4MHl (s : State) : Result := .next (resOp .o4 .mHl s)

/-- R282: RES 5,B. -/
def execRes5B (s : State) : Result := .next (resOp .o5 (.reg .b) s)

/-- R282: RES 5,C. -/
def execRes5C (s : State) : Result := .next (resOp .o5 (.reg .c) s)

/-- R282: RES 5,D. -/
def execRes5D (s : State) : Result := .next (resOp .o5 (.reg .d) s)

/-- R282: RES 5,E. -/
def execRes5E (s : State) : Result := .next (resOp .o5 (.reg .e) s)

/-- R282: RES 5,H. -/
def execRes5H (s : State) : Result := .next (resOp .o5 (.reg .h) s)

/-- R282: RES 5,L. -/
def execRes5L (s : State) : Result := .next (resOp .o5 (.reg .l) s)

/-- R282: RES 5,A. -/
def execRes5A (s : State) : Result := .next (resOp .o5 (.reg .a) s)

/-- R283: RES 5,(HL). -/
def execRes5MHl (s : State) : Result := .next (resOp .o5 .mHl s)

/-- R282: RES 6,B. -/
def execRes6B (s : State) : Result := .next (resOp .o6 (.reg .b) s)

/-- R282: RES 6,C. -/
def execRes6C (s : State) : Result := .next (resOp .o6 (.reg .c) s)

/-- R282: RES 6,D. -/
def execRes6D (s : State) : Result := .next (resOp .o6 (.reg .d) s)

/-- R282: RES 6,E. -/
def execRes6E (s : State) : Result := .next (resOp .o6 (.reg .e) s)

/-- R282: RES 6,H. -/
def execRes6H (s : State) : Result := .next (resOp .o6 (.reg .h) s)

/-- R282: RES 6,L. -/
def execRes6L (s : State) : Result := .next (resOp .o6 (.reg .l) s)

/-- R282: RES 6,A. -/
def execRes6A (s : State) : Result := .next (resOp .o6 (.reg .a) s)

/-- R283: RES 6,(HL). -/
def execRes6MHl (s : State) : Result := .next (resOp .o6 .mHl s)

/-- R282: RES 7,B. -/
def execRes7B (s : State) : Result := .next (resOp .o7 (.reg .b) s)

/-- R282: RES 7,C. -/
def execRes7C (s : State) : Result := .next (resOp .o7 (.reg .c) s)

/-- R282: RES 7,D. -/
def execRes7D (s : State) : Result := .next (resOp .o7 (.reg .d) s)

/-- R282: RES 7,E. -/
def execRes7E (s : State) : Result := .next (resOp .o7 (.reg .e) s)

/-- R282: RES 7,H. -/
def execRes7H (s : State) : Result := .next (resOp .o7 (.reg .h) s)

/-- R282: RES 7,L. -/
def execRes7L (s : State) : Result := .next (resOp .o7 (.reg .l) s)

/-- R282: RES 7,A. -/
def execRes7A (s : State) : Result := .next (resOp .o7 (.reg .a) s)

/-- R283: RES 7,(HL). -/
def execRes7MHl (s : State) : Result := .next (resOp .o7 .mHl s)

/-- R284: SET 0,B. -/
def execSet0B (s : State) : Result := .next (setOp .o0 (.reg .b) s)

/-- R284: SET 0,C. -/
def execSet0C (s : State) : Result := .next (setOp .o0 (.reg .c) s)

/-- R284: SET 0,D. -/
def execSet0D (s : State) : Result := .next (setOp .o0 (.reg .d) s)

/-- R284: SET 0,E. -/
def execSet0E (s : State) : Result := .next (setOp .o0 (.reg .e) s)

/-- R284: SET 0,H. -/
def execSet0H (s : State) : Result := .next (setOp .o0 (.reg .h) s)

/-- R284: SET 0,L. -/
def execSet0L (s : State) : Result := .next (setOp .o0 (.reg .l) s)

/-- R284: SET 0,A. -/
def execSet0A (s : State) : Result := .next (setOp .o0 (.reg .a) s)

/-- R285: SET 0,(HL). -/
def execSet0MHl (s : State) : Result := .next (setOp .o0 .mHl s)

/-- R284: SET 1,B. -/
def execSet1B (s : State) : Result := .next (setOp .o1 (.reg .b) s)

/-- R284: SET 1,C. -/
def execSet1C (s : State) : Result := .next (setOp .o1 (.reg .c) s)

/-- R284: SET 1,D. -/
def execSet1D (s : State) : Result := .next (setOp .o1 (.reg .d) s)

/-- R284: SET 1,E. -/
def execSet1E (s : State) : Result := .next (setOp .o1 (.reg .e) s)

/-- R284: SET 1,H. -/
def execSet1H (s : State) : Result := .next (setOp .o1 (.reg .h) s)

/-- R284: SET 1,L. -/
def execSet1L (s : State) : Result := .next (setOp .o1 (.reg .l) s)

/-- R284: SET 1,A. -/
def execSet1A (s : State) : Result := .next (setOp .o1 (.reg .a) s)

/-- R285: SET 1,(HL). -/
def execSet1MHl (s : State) : Result := .next (setOp .o1 .mHl s)

/-- R284: SET 2,B. -/
def execSet2B (s : State) : Result := .next (setOp .o2 (.reg .b) s)

/-- R284: SET 2,C. -/
def execSet2C (s : State) : Result := .next (setOp .o2 (.reg .c) s)

/-- R284: SET 2,D. -/
def execSet2D (s : State) : Result := .next (setOp .o2 (.reg .d) s)

/-- R284: SET 2,E. -/
def execSet2E (s : State) : Result := .next (setOp .o2 (.reg .e) s)

/-- R284: SET 2,H. -/
def execSet2H (s : State) : Result := .next (setOp .o2 (.reg .h) s)

/-- R284: SET 2,L. -/
def execSet2L (s : State) : Result := .next (setOp .o2 (.reg .l) s)

/-- R284: SET 2,A. -/
def execSet2A (s : State) : Result := .next (setOp .o2 (.reg .a) s)

/-- R285: SET 2,(HL). -/
def execSet2MHl (s : State) : Result := .next (setOp .o2 .mHl s)

/-- R284: SET 3,B. -/
def execSet3B (s : State) : Result := .next (setOp .o3 (.reg .b) s)

/-- R284: SET 3,C. -/
def execSet3C (s : State) : Result := .next (setOp .o3 (.reg .c) s)

/-- R284: SET 3,D. -/
def execSet3D (s : State) : Result := .next (setOp .o3 (.reg .d) s)

/-- R284: SET 3,E. -/
def execSet3E (s : State) : Result := .next (setOp .o3 (.reg .e) s)

/-- R284: SET 3,H. -/
def execSet3H (s : State) : Result := .next (setOp .o3 (.reg .h) s)

/-- R284: SET 3,L. -/
def execSet3L (s : State) : Result := .next (setOp .o3 (.reg .l) s)

/-- R284: SET 3,A. -/
def execSet3A (s : State) : Result := .next (setOp .o3 (.reg .a) s)

/-- R285: SET 3,(HL). -/
def execSet3MHl (s : State) : Result := .next (setOp .o3 .mHl s)

/-- R284: SET 4,B. -/
def execSet4B (s : State) : Result := .next (setOp .o4 (.reg .b) s)

/-- R284: SET 4,C. -/
def execSet4C (s : State) : Result := .next (setOp .o4 (.reg .c) s)

/-- R284: SET 4,D. -/
def execSet4D (s : State) : Result := .next (setOp .o4 (.reg .d) s)

/-- R284: SET 4,E. -/
def execSet4E (s : State) : Result := .next (setOp .o4 (.reg .e) s)

/-- R284: SET 4,H. -/
def execSet4H (s : State) : Result := .next (setOp .o4 (.reg .h) s)

/-- R284: SET 4,L. -/
def execSet4L (s : State) : Result := .next (setOp .o4 (.reg .l) s)

/-- R284: SET 4,A. -/
def execSet4A (s : State) : Result := .next (setOp .o4 (.reg .a) s)

/-- R285: SET 4,(HL). -/
def execSet4MHl (s : State) : Result := .next (setOp .o4 .mHl s)

/-- R284: SET 5,B. -/
def execSet5B (s : State) : Result := .next (setOp .o5 (.reg .b) s)

/-- R284: SET 5,C. -/
def execSet5C (s : State) : Result := .next (setOp .o5 (.reg .c) s)

/-- R284: SET 5,D. -/
def execSet5D (s : State) : Result := .next (setOp .o5 (.reg .d) s)

/-- R284: SET 5,E. -/
def execSet5E (s : State) : Result := .next (setOp .o5 (.reg .e) s)

/-- R284: SET 5,H. -/
def execSet5H (s : State) : Result := .next (setOp .o5 (.reg .h) s)

/-- R284: SET 5,L. -/
def execSet5L (s : State) : Result := .next (setOp .o5 (.reg .l) s)

/-- R284: SET 5,A. -/
def execSet5A (s : State) : Result := .next (setOp .o5 (.reg .a) s)

/-- R285: SET 5,(HL). -/
def execSet5MHl (s : State) : Result := .next (setOp .o5 .mHl s)

/-- R284: SET 6,B. -/
def execSet6B (s : State) : Result := .next (setOp .o6 (.reg .b) s)

/-- R284: SET 6,C. -/
def execSet6C (s : State) : Result := .next (setOp .o6 (.reg .c) s)

/-- R284: SET 6,D. -/
def execSet6D (s : State) : Result := .next (setOp .o6 (.reg .d) s)

/-- R284: SET 6,E. -/
def execSet6E (s : State) : Result := .next (setOp .o6 (.reg .e) s)

/-- R284: SET 6,H. -/
def execSet6H (s : State) : Result := .next (setOp .o6 (.reg .h) s)

/-- R284: SET 6,L. -/
def execSet6L (s : State) : Result := .next (setOp .o6 (.reg .l) s)

/-- R284: SET 6,A. -/
def execSet6A (s : State) : Result := .next (setOp .o6 (.reg .a) s)

/-- R285: SET 6,(HL). -/
def execSet6MHl (s : State) : Result := .next (setOp .o6 .mHl s)

/-- R284: SET 7,B. -/
def execSet7B (s : State) : Result := .next (setOp .o7 (.reg .b) s)

/-- R284: SET 7,C. -/
def execSet7C (s : State) : Result := .next (setOp .o7 (.reg .c) s)

/-- R284: SET 7,D. -/
def execSet7D (s : State) : Result := .next (setOp .o7 (.reg .d) s)

/-- R284: SET 7,E. -/
def execSet7E (s : State) : Result := .next (setOp .o7 (.reg .e) s)

/-- R284: SET 7,H. -/
def execSet7H (s : State) : Result := .next (setOp .o7 (.reg .h) s)

/-- R284: SET 7,L. -/
def execSet7L (s : State) : Result := .next (setOp .o7 (.reg .l) s)

/-- R284: SET 7,A. -/
def execSet7A (s : State) : Result := .next (setOp .o7 (.reg .a) s)

/-- R285: SET 7,(HL). -/
def execSet7MHl (s : State) : Result := .next (setOp .o7 .mHl s)

end Sys2Proof.Machine
end

