-- ==== Sys2Proof/Machine/Alu8.lean ====
section
/-! DEFINITION. 8-bit arithmetic and logic (43_alu8.md R180 to R208). -/

namespace Sys2Proof.Machine

/-! ### The shared operations -/

/-- Write A, unless the operation is CP, which discards its result (R202 to R204). -/
def Cpu.setAluResult (c : Cpu) (op : Alu) (v : Byte) : Cpu :=
  match op with
  | .cp => c
  | .add | .adc | .sub | .sbc | .and | .xor | .or => { c with a := v }

/-- `alu[y] A,` a byte, at a cost: the result into A and the four flags. -/
def aluOp (op : Alu) (v : Byte) (cost : Nat) (s : State) : State :=
  spend cost (onCpu (fun c =>
    let o := aluOut op c.a v c.fC
    (c.setAluResult op o.res).setOutFlags o) s)

/-- `alu[y] A,` a register or `(HL)` (R181, R182 and on). -/
def aluOnOp (op : Alu) (x : Opnd8) (s : State) : State := aluOp op (operand s x) (opCost x 1 2) s

/-- A read-modify-write of an operand with its flags, the carry flag unchanged by the primitive (R205 to R208). -/
def modifyOp (g : Byte → Bool → Out8) (x : Opnd8) (cost : Nat) (s : State) : State :=
  let o := g (operand s x) s.cpu.fC
  spend cost (onCpu (fun c => c.setOutFlags o) (setOperand x o.res s))

/-- `INC` (R205, R206). -/
def incOp (x : Opnd8) (s : State) : State := modifyOp inc8 x (opCost x 1 3) s

/-- `DEC` (R207, R208). -/
def decOp (x : Opnd8) (s : State) : State := modifyOp dec8 x (opCost x 1 3) s

/-! ### One meaning per row of the opcode table -/

/-- R181: ADD A,B. -/
def execAddAB (s : State) : Result := .next (aluOnOp .add (.reg .b) s)

/-- R181: ADD A,C. -/
def execAddAC (s : State) : Result := .next (aluOnOp .add (.reg .c) s)

/-- R181: ADD A,D. -/
def execAddAD (s : State) : Result := .next (aluOnOp .add (.reg .d) s)

/-- R181: ADD A,E. -/
def execAddAE (s : State) : Result := .next (aluOnOp .add (.reg .e) s)

/-- R181: ADD A,H. -/
def execAddAH (s : State) : Result := .next (aluOnOp .add (.reg .h) s)

/-- R181: ADD A,L. -/
def execAddAL (s : State) : Result := .next (aluOnOp .add (.reg .l) s)

/-- R181: ADD A,A. -/
def execAddAA (s : State) : Result := .next (aluOnOp .add (.reg .a) s)

/-- R182: ADD A,(HL). -/
def execAddAMHl (s : State) : Result := .next (aluOnOp .add .mHl s)

/-- R184: ADC A,B. -/
def execAdcAB (s : State) : Result := .next (aluOnOp .adc (.reg .b) s)

/-- R184: ADC A,C. -/
def execAdcAC (s : State) : Result := .next (aluOnOp .adc (.reg .c) s)

/-- R184: ADC A,D. -/
def execAdcAD (s : State) : Result := .next (aluOnOp .adc (.reg .d) s)

/-- R184: ADC A,E. -/
def execAdcAE (s : State) : Result := .next (aluOnOp .adc (.reg .e) s)

/-- R184: ADC A,H. -/
def execAdcAH (s : State) : Result := .next (aluOnOp .adc (.reg .h) s)

/-- R184: ADC A,L. -/
def execAdcAL (s : State) : Result := .next (aluOnOp .adc (.reg .l) s)

/-- R184: ADC A,A. -/
def execAdcAA (s : State) : Result := .next (aluOnOp .adc (.reg .a) s)

/-- R185: ADC A,(HL). -/
def execAdcAMHl (s : State) : Result := .next (aluOnOp .adc .mHl s)

/-- R187: SUB B. -/
def execSubB (s : State) : Result := .next (aluOnOp .sub (.reg .b) s)

/-- R187: SUB C. -/
def execSubC (s : State) : Result := .next (aluOnOp .sub (.reg .c) s)

/-- R187: SUB D. -/
def execSubD (s : State) : Result := .next (aluOnOp .sub (.reg .d) s)

/-- R187: SUB E. -/
def execSubE (s : State) : Result := .next (aluOnOp .sub (.reg .e) s)

/-- R187: SUB H. -/
def execSubH (s : State) : Result := .next (aluOnOp .sub (.reg .h) s)

/-- R187: SUB L. -/
def execSubL (s : State) : Result := .next (aluOnOp .sub (.reg .l) s)

/-- R187: SUB A. -/
def execSubA (s : State) : Result := .next (aluOnOp .sub (.reg .a) s)

/-- R188: SUB (HL). -/
def execSubMHl (s : State) : Result := .next (aluOnOp .sub .mHl s)

/-- R190: SBC A,B. -/
def execSbcAB (s : State) : Result := .next (aluOnOp .sbc (.reg .b) s)

/-- R190: SBC A,C. -/
def execSbcAC (s : State) : Result := .next (aluOnOp .sbc (.reg .c) s)

/-- R190: SBC A,D. -/
def execSbcAD (s : State) : Result := .next (aluOnOp .sbc (.reg .d) s)

/-- R190: SBC A,E. -/
def execSbcAE (s : State) : Result := .next (aluOnOp .sbc (.reg .e) s)

/-- R190: SBC A,H. -/
def execSbcAH (s : State) : Result := .next (aluOnOp .sbc (.reg .h) s)

/-- R190: SBC A,L. -/
def execSbcAL (s : State) : Result := .next (aluOnOp .sbc (.reg .l) s)

/-- R190: SBC A,A. -/
def execSbcAA (s : State) : Result := .next (aluOnOp .sbc (.reg .a) s)

/-- R191: SBC A,(HL). -/
def execSbcAMHl (s : State) : Result := .next (aluOnOp .sbc .mHl s)

/-- R193: AND B. -/
def execAndB (s : State) : Result := .next (aluOnOp .and (.reg .b) s)

/-- R193: AND C. -/
def execAndC (s : State) : Result := .next (aluOnOp .and (.reg .c) s)

/-- R193: AND D. -/
def execAndD (s : State) : Result := .next (aluOnOp .and (.reg .d) s)

/-- R193: AND E. -/
def execAndE (s : State) : Result := .next (aluOnOp .and (.reg .e) s)

/-- R193: AND H. -/
def execAndH (s : State) : Result := .next (aluOnOp .and (.reg .h) s)

/-- R193: AND L. -/
def execAndL (s : State) : Result := .next (aluOnOp .and (.reg .l) s)

/-- R193: AND A. -/
def execAndA (s : State) : Result := .next (aluOnOp .and (.reg .a) s)

/-- R194: AND (HL). -/
def execAndMHl (s : State) : Result := .next (aluOnOp .and .mHl s)

/-- R196: XOR B. -/
def execXorB (s : State) : Result := .next (aluOnOp .xor (.reg .b) s)

/-- R196: XOR C. -/
def execXorC (s : State) : Result := .next (aluOnOp .xor (.reg .c) s)

/-- R196: XOR D. -/
def execXorD (s : State) : Result := .next (aluOnOp .xor (.reg .d) s)

/-- R196: XOR E. -/
def execXorE (s : State) : Result := .next (aluOnOp .xor (.reg .e) s)

/-- R196: XOR H. -/
def execXorH (s : State) : Result := .next (aluOnOp .xor (.reg .h) s)

/-- R196: XOR L. -/
def execXorL (s : State) : Result := .next (aluOnOp .xor (.reg .l) s)

/-- R196: XOR A. -/
def execXorA (s : State) : Result := .next (aluOnOp .xor (.reg .a) s)

/-- R197: XOR (HL). -/
def execXorMHl (s : State) : Result := .next (aluOnOp .xor .mHl s)

/-- R199: OR B. -/
def execOrB (s : State) : Result := .next (aluOnOp .or (.reg .b) s)

/-- R199: OR C. -/
def execOrC (s : State) : Result := .next (aluOnOp .or (.reg .c) s)

/-- R199: OR D. -/
def execOrD (s : State) : Result := .next (aluOnOp .or (.reg .d) s)

/-- R199: OR E. -/
def execOrE (s : State) : Result := .next (aluOnOp .or (.reg .e) s)

/-- R199: OR H. -/
def execOrH (s : State) : Result := .next (aluOnOp .or (.reg .h) s)

/-- R199: OR L. -/
def execOrL (s : State) : Result := .next (aluOnOp .or (.reg .l) s)

/-- R199: OR A. -/
def execOrA (s : State) : Result := .next (aluOnOp .or (.reg .a) s)

/-- R200: OR (HL). -/
def execOrMHl (s : State) : Result := .next (aluOnOp .or .mHl s)

/-- R202: CP B. -/
def execCpB (s : State) : Result := .next (aluOnOp .cp (.reg .b) s)

/-- R202: CP C. -/
def execCpC (s : State) : Result := .next (aluOnOp .cp (.reg .c) s)

/-- R202: CP D. -/
def execCpD (s : State) : Result := .next (aluOnOp .cp (.reg .d) s)

/-- R202: CP E. -/
def execCpE (s : State) : Result := .next (aluOnOp .cp (.reg .e) s)

/-- R202: CP H. -/
def execCpH (s : State) : Result := .next (aluOnOp .cp (.reg .h) s)

/-- R202: CP L. -/
def execCpL (s : State) : Result := .next (aluOnOp .cp (.reg .l) s)

/-- R202: CP A. -/
def execCpA (s : State) : Result := .next (aluOnOp .cp (.reg .a) s)

/-- R203: CP (HL). -/
def execCpMHl (s : State) : Result := .next (aluOnOp .cp .mHl s)

/-- R183: ADD A,n. -/
def execAddAN (n : Byte) (s : State) : Result := .next (aluOp .add n 2 s)

/-- R186: ADC A,n. -/
def execAdcAN (n : Byte) (s : State) : Result := .next (aluOp .adc n 2 s)

/-- R189: SUB n. -/
def execSubN (n : Byte) (s : State) : Result := .next (aluOp .sub n 2 s)

/-- R192: SBC A,n. -/
def execSbcAN (n : Byte) (s : State) : Result := .next (aluOp .sbc n 2 s)

/-- R195: AND n. -/
def execAndN (n : Byte) (s : State) : Result := .next (aluOp .and n 2 s)

/-- R198: XOR n. -/
def execXorN (n : Byte) (s : State) : Result := .next (aluOp .xor n 2 s)

/-- R201: OR n. -/
def execOrN (n : Byte) (s : State) : Result := .next (aluOp .or n 2 s)

/-- R204: CP n. -/
def execCpN (n : Byte) (s : State) : Result := .next (aluOp .cp n 2 s)

/-- R205: INC B. -/
def execIncB (s : State) : Result := .next (incOp (.reg .b) s)

/-- R205: INC C. -/
def execIncC (s : State) : Result := .next (incOp (.reg .c) s)

/-- R205: INC D. -/
def execIncD (s : State) : Result := .next (incOp (.reg .d) s)

/-- R205: INC E. -/
def execIncE (s : State) : Result := .next (incOp (.reg .e) s)

/-- R205: INC H. -/
def execIncH (s : State) : Result := .next (incOp (.reg .h) s)

/-- R205: INC L. -/
def execIncL (s : State) : Result := .next (incOp (.reg .l) s)

/-- R205: INC A. -/
def execIncA (s : State) : Result := .next (incOp (.reg .a) s)

/-- R206: INC (HL). -/
def execIncMHl (s : State) : Result := .next (incOp .mHl s)

/-- R207: DEC B. -/
def execDecB (s : State) : Result := .next (decOp (.reg .b) s)

/-- R207: DEC C. -/
def execDecC (s : State) : Result := .next (decOp (.reg .c) s)

/-- R207: DEC D. -/
def execDecD (s : State) : Result := .next (decOp (.reg .d) s)

/-- R207: DEC E. -/
def execDecE (s : State) : Result := .next (decOp (.reg .e) s)

/-- R207: DEC H. -/
def execDecH (s : State) : Result := .next (decOp (.reg .h) s)

/-- R207: DEC L. -/
def execDecL (s : State) : Result := .next (decOp (.reg .l) s)

/-- R207: DEC A. -/
def execDecA (s : State) : Result := .next (decOp (.reg .a) s)

/-- R208: DEC (HL). -/
def execDecMHl (s : State) : Result := .next (decOp .mHl s)

end Sys2Proof.Machine
end

