-- ==== Sys2Proof/Machine/Shift.lean ====
section
/-! DEFINITION. Prefixed rotates, shifts and swap (47_cb_shift.md R260 to R276). -/

namespace Sys2Proof.Machine

/-! ### The shared operations -/

/-- `rot[y]` of a register or of the byte at HL, read and written back (R261 to R276). -/
def rotOp (op : Rot) (x : Opnd8) (s : State) : State := modifyOp (rotOut op) x (opCost x 2 4) s

/-! ### One meaning per row of the opcode table -/

/-- R261: RLC B. -/
def execRlcB (s : State) : Result := .next (rotOp .rlc (.reg .b) s)

/-- R261: RLC C. -/
def execRlcC (s : State) : Result := .next (rotOp .rlc (.reg .c) s)

/-- R261: RLC D. -/
def execRlcD (s : State) : Result := .next (rotOp .rlc (.reg .d) s)

/-- R261: RLC E. -/
def execRlcE (s : State) : Result := .next (rotOp .rlc (.reg .e) s)

/-- R261: RLC H. -/
def execRlcH (s : State) : Result := .next (rotOp .rlc (.reg .h) s)

/-- R261: RLC L. -/
def execRlcL (s : State) : Result := .next (rotOp .rlc (.reg .l) s)

/-- R261: RLC A. -/
def execRlcA (s : State) : Result := .next (rotOp .rlc (.reg .a) s)

/-- R262: RLC (HL). -/
def execRlcMHl (s : State) : Result := .next (rotOp .rlc .mHl s)

/-- R263: RRC B. -/
def execRrcB (s : State) : Result := .next (rotOp .rrc (.reg .b) s)

/-- R263: RRC C. -/
def execRrcC (s : State) : Result := .next (rotOp .rrc (.reg .c) s)

/-- R263: RRC D. -/
def execRrcD (s : State) : Result := .next (rotOp .rrc (.reg .d) s)

/-- R263: RRC E. -/
def execRrcE (s : State) : Result := .next (rotOp .rrc (.reg .e) s)

/-- R263: RRC H. -/
def execRrcH (s : State) : Result := .next (rotOp .rrc (.reg .h) s)

/-- R263: RRC L. -/
def execRrcL (s : State) : Result := .next (rotOp .rrc (.reg .l) s)

/-- R263: RRC A. -/
def execRrcA (s : State) : Result := .next (rotOp .rrc (.reg .a) s)

/-- R264: RRC (HL). -/
def execRrcMHl (s : State) : Result := .next (rotOp .rrc .mHl s)

/-- R265: RL B. -/
def execRlB (s : State) : Result := .next (rotOp .rl (.reg .b) s)

/-- R265: RL C. -/
def execRlC (s : State) : Result := .next (rotOp .rl (.reg .c) s)

/-- R265: RL D. -/
def execRlD (s : State) : Result := .next (rotOp .rl (.reg .d) s)

/-- R265: RL E. -/
def execRlE (s : State) : Result := .next (rotOp .rl (.reg .e) s)

/-- R265: RL H. -/
def execRlH (s : State) : Result := .next (rotOp .rl (.reg .h) s)

/-- R265: RL L. -/
def execRlL (s : State) : Result := .next (rotOp .rl (.reg .l) s)

/-- R265: RL A. -/
def execRlA (s : State) : Result := .next (rotOp .rl (.reg .a) s)

/-- R266: RL (HL). -/
def execRlMHl (s : State) : Result := .next (rotOp .rl .mHl s)

/-- R267: RR B. -/
def execRrB (s : State) : Result := .next (rotOp .rr (.reg .b) s)

/-- R267: RR C. -/
def execRrC (s : State) : Result := .next (rotOp .rr (.reg .c) s)

/-- R267: RR D. -/
def execRrD (s : State) : Result := .next (rotOp .rr (.reg .d) s)

/-- R267: RR E. -/
def execRrE (s : State) : Result := .next (rotOp .rr (.reg .e) s)

/-- R267: RR H. -/
def execRrH (s : State) : Result := .next (rotOp .rr (.reg .h) s)

/-- R267: RR L. -/
def execRrL (s : State) : Result := .next (rotOp .rr (.reg .l) s)

/-- R267: RR A. -/
def execRrA (s : State) : Result := .next (rotOp .rr (.reg .a) s)

/-- R268: RR (HL). -/
def execRrMHl (s : State) : Result := .next (rotOp .rr .mHl s)

/-- R269: SLA B. -/
def execSlaB (s : State) : Result := .next (rotOp .sla (.reg .b) s)

/-- R269: SLA C. -/
def execSlaC (s : State) : Result := .next (rotOp .sla (.reg .c) s)

/-- R269: SLA D. -/
def execSlaD (s : State) : Result := .next (rotOp .sla (.reg .d) s)

/-- R269: SLA E. -/
def execSlaE (s : State) : Result := .next (rotOp .sla (.reg .e) s)

/-- R269: SLA H. -/
def execSlaH (s : State) : Result := .next (rotOp .sla (.reg .h) s)

/-- R269: SLA L. -/
def execSlaL (s : State) : Result := .next (rotOp .sla (.reg .l) s)

/-- R269: SLA A. -/
def execSlaA (s : State) : Result := .next (rotOp .sla (.reg .a) s)

/-- R270: SLA (HL). -/
def execSlaMHl (s : State) : Result := .next (rotOp .sla .mHl s)

/-- R271: SRA B. -/
def execSraB (s : State) : Result := .next (rotOp .sra (.reg .b) s)

/-- R271: SRA C. -/
def execSraC (s : State) : Result := .next (rotOp .sra (.reg .c) s)

/-- R271: SRA D. -/
def execSraD (s : State) : Result := .next (rotOp .sra (.reg .d) s)

/-- R271: SRA E. -/
def execSraE (s : State) : Result := .next (rotOp .sra (.reg .e) s)

/-- R271: SRA H. -/
def execSraH (s : State) : Result := .next (rotOp .sra (.reg .h) s)

/-- R271: SRA L. -/
def execSraL (s : State) : Result := .next (rotOp .sra (.reg .l) s)

/-- R271: SRA A. -/
def execSraA (s : State) : Result := .next (rotOp .sra (.reg .a) s)

/-- R272: SRA (HL). -/
def execSraMHl (s : State) : Result := .next (rotOp .sra .mHl s)

/-- R273: SWAP B. -/
def execSwapB (s : State) : Result := .next (rotOp .swap (.reg .b) s)

/-- R273: SWAP C. -/
def execSwapC (s : State) : Result := .next (rotOp .swap (.reg .c) s)

/-- R273: SWAP D. -/
def execSwapD (s : State) : Result := .next (rotOp .swap (.reg .d) s)

/-- R273: SWAP E. -/
def execSwapE (s : State) : Result := .next (rotOp .swap (.reg .e) s)

/-- R273: SWAP H. -/
def execSwapH (s : State) : Result := .next (rotOp .swap (.reg .h) s)

/-- R273: SWAP L. -/
def execSwapL (s : State) : Result := .next (rotOp .swap (.reg .l) s)

/-- R273: SWAP A. -/
def execSwapA (s : State) : Result := .next (rotOp .swap (.reg .a) s)

/-- R274: SWAP (HL). -/
def execSwapMHl (s : State) : Result := .next (rotOp .swap .mHl s)

/-- R275: SRL B. -/
def execSrlB (s : State) : Result := .next (rotOp .srl (.reg .b) s)

/-- R275: SRL C. -/
def execSrlC (s : State) : Result := .next (rotOp .srl (.reg .c) s)

/-- R275: SRL D. -/
def execSrlD (s : State) : Result := .next (rotOp .srl (.reg .d) s)

/-- R275: SRL E. -/
def execSrlE (s : State) : Result := .next (rotOp .srl (.reg .e) s)

/-- R275: SRL H. -/
def execSrlH (s : State) : Result := .next (rotOp .srl (.reg .h) s)

/-- R275: SRL L. -/
def execSrlL (s : State) : Result := .next (rotOp .srl (.reg .l) s)

/-- R275: SRL A. -/
def execSrlA (s : State) : Result := .next (rotOp .srl (.reg .a) s)

/-- R276: SRL (HL). -/
def execSrlMHl (s : State) : Result := .next (rotOp .srl .mHl s)

end Sys2Proof.Machine
end

