-- ==== Sys2Proof/Machine/Prefixed.lean ====
section
/-! DEFINITION. The row PREFIX CB (40_engine_system.md R124): the rule of the prefixed entry its second byte selects, at that entry's cost. -/

namespace Sys2Proof.Machine

/-! ### The shared operations -/

/-- The rule of the prefixed entry `op2` (R124, 30_encoding.md R92): `rot`, BIT, RES or SET by bits 7:6, the operation or bit number
by bits 5:3, the operand by bits 2:0. -/
def prefixedOp (op2 : Byte) (s : State) : State :=
  let y := Oct.ofBits (field op2 3 3)
  let x := (Oct.ofBits (field op2 0 3)).opnd8
  match field op2 6 2 with
  | 0 => rotOp y.rot x s
  | 1 => bitOp y x s
  | 2 => resOp y x s
  | _ => setOp y x s

/-! ### One meaning per row of the opcode table -/

/-- R124: PREFIX CB. -/
def execPrefixCb (op2 : Byte) (s : State) : Result := .next (prefixedOp op2 s)

end Sys2Proof.Machine
end

