-- ==== Sys2Proof/Machine/System.lean ====
section
/-! DEFINITION. The system instructions and the undefined opcode bytes (40_engine_system.md R118 to R125). PC stands after the instruction's bytes when a meaning runs. -/

namespace Sys2Proof.Machine

/-! ### The shared operations -/

/-- An instruction of cost 1 that does nothing (R118, R125). -/
def doNothing (s : State) : State := spend 1 s

/-- HALT (R119): halted, and the HALT quirk when IME is 0 and an interrupt is pending. -/
def haltOp (s : State) : State :=
  spend 1 (onCpu (fun c => { c with halted := true, haltBug := c.haltBug || (!c.ime && pending s) }) s)

/-- STOP (R121): its second byte is discarded, the timer counter is reset; it is not a bus access and enters no state. -/
def stopOp (s : State) : State := spend 1 { s with timer := s.timer.resetCounter }

/-- DI (R122): at once, and the scheduled enable is dropped. -/
def diOp (s : State) : State := spend 1 (onCpu (fun c => { c with ime := false, imeSched := false }) s)

/-- EI (R123): the enable is scheduled. -/
def eiOp (s : State) : State := spend 1 (onCpu (fun c => { c with imeSched := true }) s)

/-! ### One meaning per row of the opcode table -/

/-- R118: NOP. -/
def execNop (s : State) : Result := .next (doNothing s)

/-- R119: HALT. -/
def execHalt (s : State) : Result := .next (haltOp s)

/-- R121: STOP. -/
def execStop (_n : Byte) (s : State) : Result := .next (stopOp s)

/-- R122: DI. -/
def execDi (s : State) : Result := .next (diOp s)

/-- R123: EI. -/
def execEi (s : State) : Result := .next (eiOp s)

/-- R125: UNDEF_D3. -/
def execUndefD3 (s : State) : Result := .next (doNothing s)

/-- R125: UNDEF_DB. -/
def execUndefDB (s : State) : Result := .next (doNothing s)

/-- R125: UNDEF_DD. -/
def execUndefDD (s : State) : Result := .next (doNothing s)

/-- R125: UNDEF_E3. -/
def execUndefE3 (s : State) : Result := .next (doNothing s)

/-- R125: UNDEF_E4. -/
def execUndefE4 (s : State) : Result := .next (doNothing s)

/-- R125: UNDEF_EB. -/
def execUndefEB (s : State) : Result := .next (doNothing s)

/-- R125: UNDEF_EC. -/
def execUndefEC (s : State) : Result := .next (doNothing s)

/-- R125: UNDEF_ED. -/
def execUndefED (s : State) : Result := .next (doNothing s)

/-- R125: UNDEF_F4. -/
def execUndefF4 (s : State) : Result := .next (doNothing s)

/-- R125: UNDEF_FC. -/
def execUndefFC (s : State) : Result := .next (doNothing s)

/-- R125: UNDEF_FD. -/
def execUndefFD (s : State) : Result := .next (doNothing s)

end Sys2Proof.Machine
end

