-- ==== Sys2Proof/Machine/Engine.lean ====
section
/-! DEFINITION. The scheduler's tick and the Processor's step at a machine-cycle boundary (40_engine_system.md R110 to R117), the
host agent (60_exceptions.md R302), and placing an instruction where the next step fetches it. -/

namespace Sys2Proof.Machine

/-! ### Fetching an instruction (R115, 30_encoding.md R94) -/

/-- The address of the byte after the opcode byte: under the HALT quirk PC does not advance past the opcode (R115). -/
def operandPc (s : State) : Word := if s.cpu.haltBug then s.cpu.pc else s.cpu.pc + 1#16

/-- The instruction the Processor fetches: the opcode byte at PC and the bytes from `operandPc`, all through its bus view
(R115, 30_encoding.md R94, R97). Reads change nothing (20_memory.md R54), so bytes the instruction does not have do not matter. -/
def fetchedInstr (s : State) : Instr :=
  decodeBytes (rd8 s s.cpu.pc) (rd8 s (operandPc s)) (rd8 s (operandPc s + 1#16))

/-- PC after the instruction's bytes (00_scope.md R6 `fetch8`, R115). -/
def pcAfter (s : State) : Word := operandPc s + BitVec.ofNat 16 ((fetchedInstr s).length - 1)

/-- The state in which the fetched instruction runs: PC past its bytes, the HALT quirk spent (R115), a scheduled enable of IME
made (R116). -/
def afterFetch (s : State) : State :=
  onCpu (fun c => { c with pc := pcAfter s, haltBug := false, ime := c.ime || c.imeSched, imeSched := false }) s

/-! ### The Processor's step (R111, R112) -/

/-- An instruction boundary: not halted and nothing in flight (R112). -/
def atInstrBoundary (s : State) : Bool := !s.cpu.halted && decide (s.cpu.busy = 0)

/-- `MCycleStep()` (R112). -/
def mCycleStep (s : State) : Result :=
  if s.cpu.halted then
    .next (if pending s then onCpu (fun c => { c with halted := false }) s else s)
  else if s.cpu.busy ≠ 0 then
    .next (onCpu (fun c => { c with busy := c.busy - 1 }) s)
  else if s.cpu.ime && pending s then
    .next (dispatch s)
  else
    exec (fetchedInstr s) (afterFetch s)

/-- Go on with the next state; a stop stays one. -/
def mapNext (g : State → State) : Result → Result
  | .next s => .next (g s)
  | .fault r => .fault r
  | .refused r => .refused r

/-- `phase <- (phase + 1) mod 4` (R111). -/
def advancePhase (s : State) : State := onCpu (fun c => { c with phase := c.phase + 1 }) s

/-- `CPU.tick()` (R111): the Processor acts only in phase 0. -/
def cpuTick (s : State) : Result :=
  mapNext advancePhase (if s.cpu.phase = 0 then mCycleStep s else .next s)

/-! ### The tick (R110) -/

/-- The interrupts only the host requests (60_exceptions.md R301, R302). -/
def irqSerial : Nat := 3
def irqJoypad : Nat := 4

/-- One action of the host agent (60_exceptions.md R302). -/
def applyHostAct (act : HostAct) (s : State) : State :=
  let s1 := if act.serial then requestIrq irqSerial s else s
  let s2 := if act.joypad then requestIrq irqJoypad s1 else s1
  match act.joypByte with
  | some v => { s2 with mem := s2.mem.write 0xFF00 v }
  | none => s2

/-- `Host.act()` at the start of a tick (R110): the next action, or nothing. The last tick's frame event is over. -/
def hostTurn (s : State) : State :=
  match s.host with
  | [] => { s with frameDone := false }
  | act :: rest => applyHostAct act { s with host := rest, frameDone := false }

/-- The units' turns after the Processor's, in the scheduler's fixed order, and the tick counted (R110). -/
def unitsTurn (s : State) : State :=
  let s1 := audioClock (dmaClock (timerClock (ppuClock s)))
  { s1 with tick := s1.tick + 1 }

/-- One oscillator tick (R110): host, Processor, Pixel Unit, Timer Unit, DMA Unit, audio. -/
def oneTick (s : State) : Result := mapNext unitsTurn (cpuTick (hostTurn s))

/-! ### Placing an instruction where the next step fetches it -/

/-- A cell whose fetch gives back the byte placed there: the default cartridge's image, or a stored byte. -/
def placeable (s : State) (a : Word) : Bool :=
  match target a with
  | .cart => !s.cart.external && decide (a.toNat < 0x8000)
  | .cell _ => true
  | _ => false

/-- Put a byte there. -/
def placeByte (a : Word) (v : Byte) (s : State) : State :=
  match target a with
  | .cart => { s with cart := { s.cart with image := s.cart.image.write a.toNat v } }
  | .cell k => { s with mem := s.mem.write k v }
  | _ => s

/-- Where to place three bytes: at PC, or in work RAM when PC stands where a byte cannot be placed. -/
def placePc (s : State) : Word :=
  let pc := s.cpu.pc
  if placeable s pc && placeable s (pc + 1#16) && placeable s (pc + 2#16) then pc else 0xC000#16

/-- The state made ready to fetch: at a machine-cycle boundary with nothing in flight, not halted, no HALT quirk, no host action
and no interrupt that would be taken first, no DMA transfer that would hide the bytes. Each field changes only where it must. -/
def readyToFetch (s : State) : State :=
  let pc := placePc s
  let hidden := s.dma.inProgress && !(inHram pc && inHram (pc + 1#16) && inHram (pc + 2#16))
  { s with
    host := []
    dma := if hidden then { s.dma with inProgress := false, remaining := 0 } else s.dma
    cpu := { s.cpu with
      pc := pc
      phase := 0
      busy := 0
      halted := false
      haltBug := false
      ime := s.cpu.ime && !pending s } }

/-- The three bytes of a table word (`tableBytes`) at the place the next step fetches from. -/
def placeWord (s : State) (nbits w : Nat) : State :=
  let b := tableBytes nbits w
  let s1 := readyToFetch s
  let pc := s1.cpu.pc
  placeByte (pc + 2#16) b.2.2 (placeByte (pc + 1#16) b.2.1 (placeByte pc b.1 s1))

end Sys2Proof.Machine
end

