-- ==== Sys2Proof/Machine/Step.lean ====
section
/-! DEFINITION. One step of the machine is one oscillator tick, the spec's only unit of time (40_engine_system.md R110). -/

namespace Sys2Proof.Machine

/-- One step: one tick of the scheduler (40_engine_system.md R110). -/
def step (s : State) : Host.Outcome State Fault Refusal := oneTick s

/-- `s` with an instruction's word stored where the next step fetches, so that the very next step runs exactly it: it stands for
the loading of the cartridge image, which precedes the machine (70_reset_and_hazards.md R381; log entry 16). -/
def State.withFetchWord (s : State) (nbits w : Nat) : State := placeWord s nbits w

end Sys2Proof.Machine
end

