-- ==== Sys2Proof/Safety.lean ====
section
/-! DEFINITION. What counts as a good state and a good run, in the terms the statements use: the bytes a store can reach, the
forms of a run that keeps or stores memory, and the invariant of the machine. -/

namespace Sys2Proof

/-! ### The field codes of 30_encoding.md R91, for statements about encodings -/

def Reg8.code : Reg8 → Nat
  | .b => 0 | .c => 1 | .d => 2 | .e => 3 | .h => 4 | .l => 5 | .a => 7

def Opnd8.code : Opnd8 → Nat
  | .reg r => r.code
  | .mHl => 6

def Reg16.code : Reg16 → Nat
  | .bc => 0 | .de => 1 | .hl => 2 | .sp => 3

def PairQ.code : PairQ → Nat
  | .bc => 0 | .de => 1 | .hl => 2 | .af => 3

def Cond.code : Cond → Nat
  | .nz => 0 | .z => 1 | .nc => 2 | .c => 3

def Alu.code : Alu → Nat
  | .add => 0 | .adc => 1 | .sub => 2 | .sbc => 3 | .and => 4 | .xor => 5 | .or => 6 | .cp => 7

def Rot.code : Rot → Nat
  | .rlc => 0 | .rrc => 1 | .rl => 2 | .rr => 3 | .sla => 4 | .sra => 5 | .swap => 6 | .srl => 7

end Sys2Proof

namespace Sys2Proof.Machine

/-! ### What a store can reach -/

/-- The two ranges delegated to the cartridge (20_memory.md R51). -/
def inCart (a : Word) : Prop := a.toNat < 0x8000 ∨ (0xA000 ≤ a.toNat ∧ a.toNat < 0xC000)

/-- The range delegated to the audio unit (20_memory.md R58). -/
def inAudio (a : Word) : Prop := 0xFF10 ≤ a.toNat ∧ a.toNat ≤ 0xFF3F

/-- The addresses `b` whose byte a Processor store at `a` may change, when the DMA block does not discard it: `a` itself, its
mirror (20_memory.md R56), TIMA for a store to DIV or TMA (60_exceptions.md R328, R330), STAT, LY and IF for a store to LCDC
(R368, R369), and whatever an undescribed cartridge or audio unit answers in its own range (20_memory.md R57, R58). -/
def storeReach (s : State) (a b : Word) : Prop :=
  dmaBlocks s a = false ∧
    (b = a ∨
      (0xC000 ≤ a.toNat ∧ a.toNat < 0xDE00 ∧ b.toNat = a.toNat + 0x2000) ∨
      (0xE000 ≤ a.toNat ∧ a.toNat < 0xFE00 ∧ b.toNat + 0x2000 = a.toNat) ∨
      ((a.toNat = 0xFF04 ∨ a.toNat = 0xFF06) ∧ b.toNat = 0xFF05) ∨
      (a.toNat = 0xFF40 ∧ (b.toNat = 0xFF41 ∨ b.toNat = 0xFF44 ∨ b.toNat = 0xFF0F)) ∨
      (s.cart.external = true ∧ inCart a ∧ inCart b) ∨
      (s.audio.external = true ∧ inAudio a ∧ inAudio b))

/-- The addresses that a store of `v` at `a` and then one at `a'` may change. -/
def storeReach2 (s : State) (a : Word) (v : Byte) (a' b : Word) : Prop :=
  storeReach s a b ∨ storeReach (wr8 a v s) a' b

/-- `i` completes at `s` in `t` and every byte of the address space reads as before. -/
def RunsKeepingMemory (i : Instr) (s t : State) : Prop :=
  exec i s = .next t ∧ ∀ a, rawRead t a = rawRead s a

/-- `i` completes at `s` in `t` and every byte outside `reach` reads as before. -/
def RunsStoring (i : Instr) (s t : State) (reach : Word → Prop) : Prop :=
  exec i s = .next t ∧ ∀ a, ¬ reach a → rawRead t a = rawRead s a

/-! ### The invariant -/

/-- The Processor (10_state.md R12, R15): F[3:0] = 0, at most five machine cycles in flight, none while halted
(40_engine_system.md R120). -/
structure CpuOk (c : Cpu) : Prop where
  flags : c.f &&& 0x0F#8 = 0#8
  busy : c.busy ≤ 5
  halted : c.halted = true → c.busy = 0

/-- The Timer Unit (10_state.md R20): the windows are at most four ticks, an overflow is pending exactly in window A, and a reload
override exists only under `replace_reload` and in window A. -/
structure TimerOk (cfg : Config) (t : Timer) : Prop where
  pre : t.preReload ≤ 4
  post : t.postReload ≤ 4
  pending : t.overflowPending = decide (0 < t.preReload)
  override : t.reloadOverride.isSome = true → cfg.timaWindowA = .replaceReload ∧ 0 < t.preReload

/-- The DMA Unit (10_state.md R21): a transfer is in progress exactly while ticks remain, never more than `DMA_TICKS`. -/
structure DmaOk (cfg : Config) (d : Dma) : Prop where
  remaining : d.remaining ≤ cfg.dmaTicks
  inProgress : d.inProgress = decide (0 < d.remaining)

/-- The sprite list is in ascending order of X (60_exceptions.md R356, R357). -/
def sortedByX : List Sprite → Bool
  | [] => true
  | [_] => true
  | x :: y :: rest => decide (x.x.toNat ≤ y.x.toNat) && sortedByX (y :: rest)

/-- The dots of a line with the LCD on, by mode (60_exceptions.md R351, R354, R359, R360): whatever Drawing lasts, the dots
elapsed and the dots left say where in the 456-dot line the unit stands. -/
def DotsOk (p : Ppu) : Prop :=
  match p.mode with
  | .oamScan => p.ly.toNat < 144 ∧ p.dotsLine + p.dotsRemaining = 80
  | .drawing =>
    p.ly.toNat < 144 ∧ 80 ≤ p.dotsLine ∧ 252 + p.drawDelay ≤ p.dotsLine + p.dotsRemaining ∧
      p.dotsLine + p.dotsRemaining ≤ 436 + p.drawDelay ∧ p.px = min 160 (p.dotsLine - (80 + p.drawDelay))
  | .hblank => p.ly.toNat < 144 ∧ p.dotsLine + p.dotsRemaining = 456
  | .vblank => 144 ≤ p.ly.toNat ∧ p.ly.toNat ≤ 153 ∧ p.dotsLine + p.dotsRemaining = 456

/-- The Pixel Unit (10_state.md R27, 60_exceptions.md R351, R354, R363, R368). -/
structure PpuOk (p : Ppu) : Prop where
  modeBits : field p.stat 0 2 = p.mode.code
  matchBit : bit p.stat 2 = p.lycLatch
  delay : 12 ≤ p.drawDelay ∧ p.drawDelay ≤ 19
  cursor : p.px ≤ 160
  atMostTen : p.sprites.length ≤ 10
  sorted : sortedByX p.sprites = true
  off : bit p.lcdc 7 = false → p.ly = 0#8 ∧ p.mode = .hblank
  on : bit p.lcdc 7 = true → 0 < p.dotsRemaining ∧ DotsOk p

/-- The invariant of the machine: canonical storage, and each unit's state legal. -/
structure Inv (s : State) : Prop where
  mem : s.mem.wf = true
  image : s.cart.image.wf = true
  frame : s.ppu.fb.wf = true
  dmaTicks : 0 < s.cfg.dmaTicks
  cpu : CpuOk s.cpu
  timer : TimerOk s.cfg s.timer
  dma : DmaOk s.cfg s.dma
  ppu : PpuOk s.ppu

end Sys2Proof.Machine
end

