-- ==== Sys2Proof/Certificates/Slice0/Obligations.lean ====
section
/-! DEFINITION. The statements for the provers. Results are written out from the rules with their own arithmetic, not with the
model's operations: a `busy` of n - 1 is a cost of n machine cycles (40_engine_system.md R114), and PC is the address after the
instruction's bytes, as in every rule of files 41 to 48 (00_scope.md R6). -/

namespace Sys2Proof.Claims

open Sys2Proof.Machine

/-! ### Words of the rules, written once -/

/-- 43_alu8.md R180 `add8` into A, at a cost. -/
def afterAdd (v : Byte) (cin cost : Nat) (s : State) : State :=
  let a := s.cpu.a.toNat
  let sum := a + v.toNat + cin
  { s with cpu := { s.cpu with
      a := BitVec.ofNat 8 sum
      f := packFlags (decide (sum % 256 = 0)) false (decide (a % 16 + v.toNat % 16 + cin > 0x0F)) (decide (sum > 0xFF))
      busy := cost - 1 } }

/-- The flags of 43_alu8.md R180 `sub8`. -/
def subFlags (a v : Byte) (cin : Nat) : Byte :=
  packFlags (decide (((a.toNat : Int) - v.toNat - cin) % 256 = 0)) true (decide (a.toNat % 16 < v.toNat % 16 + cin))
    (decide (a.toNat < v.toNat + cin))

/-- 43_alu8.md R180 `sub8` into A, at a cost. -/
def afterSub (v : Byte) (cin cost : Nat) (s : State) : State :=
  { s with cpu := { s.cpu with
      a := BitVec.ofInt 8 ((s.cpu.a.toNat : Int) - v.toNat - cin)
      f := subFlags s.cpu.a v cin
      busy := cost - 1 } }

/-- CP: the flags only (43_alu8.md R202). -/
def afterCompare (v : Byte) (cost : Nat) (s : State) : State :=
  { s with cpu := { s.cpu with f := subFlags s.cpu.a v 0, busy := cost - 1 } }

/-- 43_alu8.md R180 `and8`, `xor8`, `or8` into A: the result and H. -/
def afterLogic (r : Byte) (h : Bool) (cost : Nat) (s : State) : State :=
  { s with cpu := { s.cpu with a := r, f := packFlags (decide (r = 0#8)) false h false, busy := cost - 1 } }

/-- The cost of a form by its operand: a register, or the byte at HL. -/
def costOf (x : Opnd8) (r m : Nat) : Nat := match x with | .reg _ => r | .mHl => m

/-- 47_cb_shift.md R260: the result byte, by shifts and rotations. -/
def rotated (op : Rot) (v : Byte) (carry : Bool) : Byte :=
  match op with
  | .rlc => v.rotateLeft 1
  | .rrc => v.rotateRight 1
  | .rl => (v <<< 1) ||| (if carry then 0x01#8 else 0x00#8)
  | .rr => (v >>> 1) ||| (if carry then 0x80#8 else 0x00#8)
  | .sla => v <<< 1
  | .sra => (v >>> 1) ||| (v &&& 0x80#8)
  | .swap => v.rotateLeft 4
  | .srl => v >>> 1

/-- 47_cb_shift.md R260: the new carry flag. -/
def shiftedOut (op : Rot) (v : Byte) : Bool :=
  match op with
  | .rlc | .rl | .sla => v.getLsbD 7
  | .rrc | .rr | .sra | .srl => v.getLsbD 0
  | .swap => false

/-- Memory after `push16(w)` (00_scope.md R6): the high byte at SP - 1, then the low byte at SP - 2. -/
def pushed (w : Word) (s : State) : State := wr8 (s.cpu.sp - 2#16) (loByte w) (wr8 (s.cpu.sp - 1#16) (hiByte w) s)

/-- The addresses a push may change. -/
def pushReach (w : Word) (s : State) : Word → Prop :=
  storeReach2 s (s.cpu.sp - 1#16) (hiByte w) (s.cpu.sp - 2#16)

/-- The word on top of the stack (00_scope.md R6 `pop16`): the low byte at SP, the high byte at SP + 1. -/
def topWord (s : State) : Word := BitVec.ofNat 16 (256 * (rd8 s (s.cpu.sp + 1#16)).toNat + (rd8 s s.cpu.sp).toNat)

/-- PC plus a signed displacement, mod 2^16 (46_control.md). -/
def jumped (pc : Word) (e : Byte) : Word := BitVec.ofInt 16 ((pc.toNat : Int) + e.toInt)

/-- The read-modify-write of an operand with new flags, at a cost: a register, or a bus write at HL. -/
def afterModify (x : Opnd8) (v f : Byte) (cost : Nat) (s : State) : State :=
  match x with
  | .reg r => { s with cpu := { s.cpu.setReg r v with f := f, busy := cost - 1 } }
  | .mHl => let m := wr8 s.cpu.hl v s; { m with cpu := { s.cpu with f := f, busy := cost - 1 } }

/-- What such a form may change in memory: nothing for a register, the store at HL else. -/
def modifyReach (x : Opnd8) (s : State) : Word → Prop :=
  match x with
  | .reg _ => fun _ => False
  | .mHl => storeReach s s.cpu.hl

/-- An address that is a plain stored byte whatever is plugged in: video RAM, work RAM and its echo, OAM, the unusable region,
HRAM (20_memory.md R51). -/
def plain (a : Word) : Prop :=
  (0x8000 ≤ a.toNat ∧ a.toNat < 0xA000) ∨ (0xC000 ≤ a.toNat ∧ a.toNat < 0xFF00) ∨
    (0xFF80 ≤ a.toNat ∧ a.toNat ≤ 0xFFFE)

/-- The two decimal digits of a packed byte are digits. -/
def isBcd (v : Byte) : Prop := v.toNat % 16 ≤ 9 ∧ v.toNat / 16 ≤ 9

/-- The number two packed decimal digits stand for. -/
def bcdValue (v : Byte) : Nat := 10 * (v.toNat / 16) + v.toNat % 16

/-- `f` applied `k` times. -/
def iter {α : Type} (f : α → α) : Nat → α → α
  | 0, x => x
  | k + 1, x => iter f k (f x)

end Sys2Proof.Claims

open Sys2Proof Sys2Proof.Machine Sys2Proof.Claims

/-! ### The register file and the flag byte -/

/-- 10_state.md R11, R12, 00_scope.md R6, 30_encoding.md R91: each selector names its register; a register write changes that register
and no other; a pair is its two halves, the first letter high, and holds nothing of its own; a write to AF clears F[3:0]; the flags
stand at bits 7 to 4. The operand of a register form is that register, of the (HL) form the byte at HL.
The bit positions are decision D2. -/
def Obligations.RegisterFileAndFlagByte : Prop :=
  ∀ (s : State) (k : Cpu) (r q : Reg8) (v : Byte) (w : Word) (z n h c : Bool),
    (k.reg .b = k.b ∧ k.reg .c = k.c ∧ k.reg .d = k.d ∧ k.reg .e = k.e ∧ k.reg .h = k.h ∧ k.reg .l = k.l ∧ k.reg .a = k.a) ∧
    (k.setReg .b v = { k with b := v } ∧ k.setReg .c v = { k with c := v } ∧ k.setReg .d v = { k with d := v } ∧
      k.setReg .e v = { k with e := v } ∧ k.setReg .h v = { k with h := v } ∧ k.setReg .l v = { k with l := v } ∧
      k.setReg .a v = { k with a := v }) ∧
    (k.reg16 .bc = k.bc ∧ k.reg16 .de = k.de ∧ k.reg16 .hl = k.hl ∧ k.reg16 .sp = k.sp) ∧
    (k.setReg16 .bc w = k.setBc w ∧ k.setReg16 .de w = k.setDe w ∧ k.setReg16 .hl w = k.setHl w ∧
      k.setReg16 .sp w = { k with sp := w }) ∧
    (k.pairQ .bc = k.bc ∧ k.pairQ .de = k.de ∧ k.pairQ .hl = k.hl ∧ k.pairQ .af = k.af) ∧
    (k.setPairQ .bc w = k.setBc w ∧ k.setPairQ .de w = k.setDe w ∧ k.setPairQ .hl w = k.setHl w ∧
      k.setPairQ .af w = k.setAf w) ∧
    (operand s (.reg r) = s.cpu.reg r ∧ operand s .mHl = rd8 s s.cpu.hl) ∧
    (k.setReg r v).reg q = (if q = r then v else k.reg q) ∧
    { k.setReg r v with a := k.a, b := k.b, c := k.c, d := k.d, e := k.e, h := k.h, l := k.l } = k ∧
    k.bc.toNat = 256 * k.b.toNat + k.c.toNat ∧ k.de.toNat = 256 * k.d.toNat + k.e.toNat ∧
    k.hl.toNat = 256 * k.h.toNat + k.l.toNat ∧ k.af.toNat = 256 * k.a.toNat + k.f.toNat ∧
    (k.setBc w = { k with b := w.extractLsb' 8 8, c := w.extractLsb' 0 8 } ∧ (k.setBc w).bc = w) ∧
    (k.setDe w = { k with d := w.extractLsb' 8 8, e := w.extractLsb' 0 8 } ∧ (k.setDe w).de = w) ∧
    (k.setHl w = { k with h := w.extractLsb' 8 8, l := w.extractLsb' 0 8 } ∧ (k.setHl w).hl = w) ∧
    k.setAf w = { k with a := w.extractLsb' 8 8, f := w.extractLsb' 0 8 &&& 0xF0#8 } ∧
    (packFlags z n h c).getLsbD 7 = z ∧ (packFlags z n h c).getLsbD 6 = n ∧ (packFlags z n h c).getLsbD 5 = h ∧
    (packFlags z n h c).getLsbD 4 = c ∧ packFlags z n h c &&& 0x0F#8 = 0#8 ∧
    k.fZ = k.f.getLsbD 7 ∧ k.fN = k.f.getLsbD 6 ∧ k.fH = k.f.getLsbD 5 ∧ k.fC = k.f.getLsbD 4

/-! ### The system instructions -/

/-- 40_engine_system.md R118, R119, R122, R123, R125: NOP and the eleven undefined bytes do nothing but cost 1; HALT halts and sets
the quirk exactly when IME is 0 and an enabled interrupt is requested; DI and EI.
EI and DI's timing and the undefined bytes are decisions D10, D13. -/
def Obligations.SystemInstructions : Prop :=
  ∀ (s : State) (u : Hole),
    (encode .nop = [0x00#8] ∧ RunsKeepingMemory .nop s { s with cpu := { s.cpu with busy := 0 } }) ∧
    ([encode (undefRow .d3), encode (undefRow .db), encode (undefRow .dd), encode (undefRow .e3), encode (undefRow .e4),
      encode (undefRow .eb), encode (undefRow .ec), encode (undefRow .ed), encode (undefRow .f4), encode (undefRow .fc),
      encode (undefRow .fd)] =
      [[0xD3#8], [0xDB#8], [0xDD#8], [0xE3#8], [0xE4#8], [0xEB#8], [0xEC#8], [0xED#8], [0xF4#8], [0xFC#8], [0xFD#8]] ∧
      RunsKeepingMemory (undefRow u) s { s with cpu := { s.cpu with busy := 0 } }) ∧
    (encode .halt = [0x76#8] ∧
      RunsKeepingMemory .halt s
        { s with cpu := { s.cpu with
            halted := true
            haltBug := s.cpu.haltBug || (!s.cpu.ime && decide (s.ieReg &&& s.ifReg &&& 0x1F#8 ≠ 0#8))
            busy := 0 } }) ∧
    (encode .di = [0xF3#8] ∧
      RunsKeepingMemory .di s { s with cpu := { s.cpu with ime := false, imeSched := false, busy := 0 } }) ∧
    (encode .ei = [0xFB#8] ∧ RunsKeepingMemory .ei s { s with cpu := { s.cpu with imeSched := true, busy := 0 } })

/-- 40_engine_system.md R121, 60_exceptions.md R328: STOP, whatever its second byte, clears the timer counter and evaluates the edge
at once: a sampled bit that was 1 increments TIMA, from 0xFF it overflows. Only DIV and TIMA may read differently.
That the Processor goes on is decision D12. -/
def Obligations.StopResetsTheTimerCounter : Prop :=
  ∀ (s : State) (n : Byte),
    encode (.stop n) = [0x10#8, n] ∧
    exec (.stop n) s = .next
      { s with
        cpu := { s.cpu with busy := 0 }
        timer := { s.timer with
          counter := 0#16
          delayedBit := false
          tima :=
            if s.timer.delayedBit then (if s.timer.tima = 0xFF#8 then 0#8 else s.timer.tima + 1#8) else s.timer.tima
          overflowPending := (s.timer.delayedBit && decide (s.timer.tima = 0xFF#8)) || s.timer.overflowPending
          preReload := if s.timer.delayedBit = true ∧ s.timer.tima = 0xFF#8 then 4 else s.timer.preReload } } ∧
    ∀ t, exec (.stop n) s = .next t → ∀ a : Word, a ≠ 0xFF04#16 → a ≠ 0xFF05#16 → rawRead t a = rawRead s a

/-- 40_engine_system.md R124: the row PREFIX CB runs the prefixed entry its second byte selects, at that entry's cost, and encodes
as the two bytes. The bare row is log entry 13. -/
def Obligations.PrefixRunsThePrefixedEntry : Prop :=
  ∀ (s : State) (op2 : Byte),
    encode (.prefixCb op2) = [0xCB#8, op2] ∧ encode (decodePrefixed op2) = [0xCB#8, op2] ∧
    exec (.prefixCb op2) s = exec (decodePrefixed op2) s ∧ ∃ t, exec (.prefixCb op2) s = .next t

/-! ### The 8-bit loads -/

/-- 41_load8.md R140, R141, R142. -/
def Obligations.LoadsIntoRegisters : Prop :=
  ∀ (s : State) (r q : Reg8) (n : Byte),
    (encode (ldRow r (.reg q)) = [BitVec.ofNat 8 (0x40 + 8 * r.code + q.code)] ∧
      RunsKeepingMemory (ldRow r (.reg q)) s { s with cpu := { s.cpu.setReg r (s.cpu.reg q) with busy := 0 } }) ∧
    (encode (ldImmRow (.reg r) n) = [BitVec.ofNat 8 (0x06 + 8 * r.code), n] ∧
      RunsKeepingMemory (ldImmRow (.reg r) n) s { s with cpu := { s.cpu.setReg r n with busy := 1 } }) ∧
    (encode (ldRow r .mHl) = [BitVec.ofNat 8 (0x46 + 8 * r.code)] ∧
      RunsKeepingMemory (ldRow r .mHl) s { s with cpu := { s.cpu.setReg r (rd8 s s.cpu.hl) with busy := 1 } })

/-- 41_load8.md R143, R144: the store is the Processor's bus write at HL, and no byte outside its reach changes. -/
def Obligations.StoresAtHl : Prop :=
  ∀ (s : State) (r : Reg8) (n : Byte),
    (encode (ldMHlRow r) = [BitVec.ofNat 8 (0x70 + r.code)] ∧
      RunsStoring (ldMHlRow r) s
        (let m := wr8 s.cpu.hl (s.cpu.reg r) s; { m with cpu := { s.cpu with busy := 1 } }) (storeReach s s.cpu.hl)) ∧
    (encode (ldImmRow .mHl n) = [0x36#8, n] ∧
      RunsStoring (ldImmRow .mHl n) s
        (let m := wr8 s.cpu.hl n s; { m with cpu := { s.cpu with busy := 2 } }) (storeReach s s.cpu.hl))

/-- 41_load8.md R145, R146, R149, R151, R153, R156, R158. -/
def Obligations.LoadsIntoTheAccumulator : Prop :=
  ∀ (s : State) (n : Byte) (nn : Word),
    (encode .ldAMBc = [0x0A#8] ∧
      RunsKeepingMemory .ldAMBc s { s with cpu := { s.cpu with a := rd8 s s.cpu.bc, busy := 1 } }) ∧
    (encode .ldAMDe = [0x1A#8] ∧
      RunsKeepingMemory .ldAMDe s { s with cpu := { s.cpu with a := rd8 s s.cpu.de, busy := 1 } }) ∧
    (encode (.ldAMNn nn) = [0xFA#8, loByte nn, hiByte nn] ∧
      RunsKeepingMemory (.ldAMNn nn) s { s with cpu := { s.cpu with a := rd8 s nn, busy := 3 } }) ∧
    (encode .ldhAMC = [0xF2#8] ∧
      RunsKeepingMemory .ldhAMC s
        { s with cpu := { s.cpu with a := rd8 s (BitVec.ofNat 16 (0xFF00 + s.cpu.c.toNat)), busy := 1 } }) ∧
    (encode (.ldhAMN n) = [0xF0#8, n] ∧
      RunsKeepingMemory (.ldhAMN n) s
        { s with cpu := { s.cpu with a := rd8 s (BitVec.ofNat 16 (0xFF00 + n.toNat)), busy := 2 } }) ∧
    (encode .ldAMHlInc = [0x2A#8] ∧
      RunsKeepingMemory .ldAMHlInc s
        { s with cpu := { s.cpu.setHl (s.cpu.hl + 1#16) with a := rd8 s s.cpu.hl, busy := 1 } }) ∧
    (encode .ldAMHlDec = [0x3A#8] ∧
      RunsKeepingMemory .ldAMHlDec s
        { s with cpu := { s.cpu.setHl (s.cpu.hl - 1#16) with a := rd8 s s.cpu.hl, busy := 1 } })

/-- 41_load8.md R147, R148, R150, R152, R154, R155, R157: HL moves whether or not the store is discarded. -/
def Obligations.StoresOfTheAccumulator : Prop :=
  ∀ (s : State) (n : Byte) (nn : Word),
    let stores (i : Instr) (a : Word) (k : Cpu) : Prop :=
      RunsStoring i s (let m := wr8 a s.cpu.a s; { m with cpu := k }) (storeReach s a)
    (encode .ldMBcA = [0x02#8] ∧ stores .ldMBcA s.cpu.bc { s.cpu with busy := 1 }) ∧
    (encode .ldMDeA = [0x12#8] ∧ stores .ldMDeA s.cpu.de { s.cpu with busy := 1 }) ∧
    (encode (.ldMNnA nn) = [0xEA#8, loByte nn, hiByte nn] ∧ stores (.ldMNnA nn) nn { s.cpu with busy := 3 }) ∧
    (encode .ldhMCA = [0xE2#8] ∧ stores .ldhMCA (BitVec.ofNat 16 (0xFF00 + s.cpu.c.toNat)) { s.cpu with busy := 1 }) ∧
    (encode (.ldhMNA n) = [0xE0#8, n] ∧ stores (.ldhMNA n) (BitVec.ofNat 16 (0xFF00 + n.toNat)) { s.cpu with busy := 2 }) ∧
    (encode .ldMHlIncA = [0x22#8] ∧
      stores .ldMHlIncA s.cpu.hl { s.cpu.setHl (s.cpu.hl + 1#16) with busy := 1 }) ∧
    (encode .ldMHlDecA = [0x32#8] ∧
      stores .ldMHlDecA s.cpu.hl { s.cpu.setHl (s.cpu.hl - 1#16) with busy := 1 })

/-! ### The 16-bit loads and the stack -/

/-- 42_load16_stack.md R170, R172, R173: the sum is SP plus the signed byte, H and C are the carries of the unsigned low bytes. -/
def Obligations.SixteenBitLoads : Prop :=
  ∀ (s : State) (r : Reg16) (nn : Word) (e : Byte),
    (encode (ld16Row r nn) = [BitVec.ofNat 8 (0x01 + 16 * r.code), loByte nn, hiByte nn] ∧
      RunsKeepingMemory (ld16Row r nn) s { s with cpu := { s.cpu.setReg16 r nn with busy := 2 } }) ∧
    (encode .ldSpHl = [0xF9#8] ∧
      RunsKeepingMemory .ldSpHl s { s with cpu := { s.cpu with sp := s.cpu.hl, busy := 1 } }) ∧
    (encode (.ldHlSpE e) = [0xF8#8, e] ∧
      RunsKeepingMemory (.ldHlSpE e) s
        { s with cpu := { s.cpu.setHl (BitVec.ofInt 16 ((s.cpu.sp.toNat : Int) + e.toInt)) with
            f := packFlags false false (decide (s.cpu.sp.toNat % 16 + e.toNat % 16 > 0x0F))
              (decide (s.cpu.sp.toNat % 256 + e.toNat > 0xFF))
            busy := 2 } })

/-- 42_load16_stack.md R171, R174: SP's low byte at the lower address; PUSH stores the high byte first, at the higher address, and
SP goes down by 2 even when the stores are discarded. -/
def Obligations.SixteenBitStores : Prop :=
  ∀ (s : State) (r : PairQ) (nn : Word),
    (encode (.ldMNnSp nn) = [0x08#8, loByte nn, hiByte nn] ∧
      RunsStoring (.ldMNnSp nn) s
        (let m := wr8 (nn + 1#16) (hiByte s.cpu.sp) (wr8 nn (loByte s.cpu.sp) s); { m with cpu := { s.cpu with busy := 4 } })
        (storeReach2 s nn (loByte s.cpu.sp) (nn + 1#16))) ∧
    (encode (pushRow r) = [BitVec.ofNat 8 (0xC5 + 16 * r.code)] ∧
      RunsStoring (pushRow r) s
        (let m := pushed (s.cpu.pairQ r) s; { m with cpu := { s.cpu with sp := s.cpu.sp - 2#16, busy := 3 } })
        (pushReach (s.cpu.pairQ r) s))

/-- 42_load16_stack.md R175: the low byte from SP, the high byte from SP + 1; POP AF drops F[3:0]. -/
def Obligations.PopLoadsAPair : Prop :=
  ∀ (s : State) (r : PairQ),
    encode (popRow r) = [BitVec.ofNat 8 (0xC1 + 16 * r.code)] ∧
    RunsKeepingMemory (popRow r) s
      (let lo := rd8 s s.cpu.sp
       let hi := rd8 s (s.cpu.sp + 1#16)
       let k := { s.cpu with sp := s.cpu.sp + 2#16, busy := 2 }
       { s with cpu :=
          match r with
          | .bc => { k with b := hi, c := lo }
          | .de => { k with d := hi, e := lo }
          | .hl => { k with h := hi, l := lo }
          | .af => { k with a := hi, f := lo &&& 0xF0#8 } })

/-! ### 8-bit arithmetic and logic -/

/-- 43_alu8.md R181 to R186 (with R180): ADD and ADC of a register, of the byte at HL, of an immediate. -/
def Obligations.AddAndAddWithCarry : Prop :=
  ∀ (s : State) (x : Opnd8) (n : Byte),
    (encode (aluRow .add x) = [BitVec.ofNat 8 (0x80 + x.code)] ∧
      RunsKeepingMemory (aluRow .add x) s (afterAdd (operand s x) 0 (costOf x 1 2) s)) ∧
    (encode (aluImmRow .add n) = [0xC6#8, n] ∧ RunsKeepingMemory (aluImmRow .add n) s (afterAdd n 0 2 s)) ∧
    (encode (aluRow .adc x) = [BitVec.ofNat 8 (0x88 + x.code)] ∧
      RunsKeepingMemory (aluRow .adc x) s (afterAdd (operand s x) s.cpu.fC.toNat (costOf x 1 2) s)) ∧
    (encode (aluImmRow .adc n) = [0xCE#8, n] ∧
      RunsKeepingMemory (aluImmRow .adc n) s (afterAdd n s.cpu.fC.toNat 2 s))

/-- 43_alu8.md R187 to R192 (with R180): SUB and SBC; the borrow is compared before any narrowing. -/
def Obligations.SubtractAndSubtractWithCarry : Prop :=
  ∀ (s : State) (x : Opnd8) (n : Byte),
    (encode (aluRow .sub x) = [BitVec.ofNat 8 (0x90 + x.code)] ∧
      RunsKeepingMemory (aluRow .sub x) s (afterSub (operand s x) 0 (costOf x 1 2) s)) ∧
    (encode (aluImmRow .sub n) = [0xD6#8, n] ∧ RunsKeepingMemory (aluImmRow .sub n) s (afterSub n 0 2 s)) ∧
    (encode (aluRow .sbc x) = [BitVec.ofNat 8 (0x98 + x.code)] ∧
      RunsKeepingMemory (aluRow .sbc x) s (afterSub (operand s x) s.cpu.fC.toNat (costOf x 1 2) s)) ∧
    (encode (aluImmRow .sbc n) = [0xDE#8, n] ∧
      RunsKeepingMemory (aluImmRow .sbc n) s (afterSub n s.cpu.fC.toNat 2 s))

/-- 43_alu8.md R193 to R201 (with R180): AND sets H, XOR and OR clear it, all three clear N and C. -/
def Obligations.AndXorOr : Prop :=
  ∀ (s : State) (x : Opnd8) (n : Byte),
    (encode (aluRow .and x) = [BitVec.ofNat 8 (0xA0 + x.code)] ∧
      RunsKeepingMemory (aluRow .and x) s (afterLogic (s.cpu.a &&& operand s x) true (costOf x 1 2) s)) ∧
    (encode (aluImmRow .and n) = [0xE6#8, n] ∧
      RunsKeepingMemory (aluImmRow .and n) s (afterLogic (s.cpu.a &&& n) true 2 s)) ∧
    (encode (aluRow .xor x) = [BitVec.ofNat 8 (0xA8 + x.code)] ∧
      RunsKeepingMemory (aluRow .xor x) s (afterLogic (s.cpu.a ^^^ operand s x) false (costOf x 1 2) s)) ∧
    (encode (aluImmRow .xor n) = [0xEE#8, n] ∧
      RunsKeepingMemory (aluImmRow .xor n) s (afterLogic (s.cpu.a ^^^ n) false 2 s)) ∧
    (encode (aluRow .or x) = [BitVec.ofNat 8 (0xB0 + x.code)] ∧
      RunsKeepingMemory (aluRow .or x) s (afterLogic (s.cpu.a ||| operand s x) false (costOf x 1 2) s)) ∧
    (encode (aluImmRow .or n) = [0xF6#8, n] ∧
      RunsKeepingMemory (aluImmRow .or n) s (afterLogic (s.cpu.a ||| n) false 2 s))

/-- 43_alu8.md R202, R203, R204: CP writes the flags of the subtraction and leaves A. -/
def Obligations.CompareLeavesTheAccumulator : Prop :=
  ∀ (s : State) (x : Opnd8) (n : Byte),
    (encode (aluRow .cp x) = [BitVec.ofNat 8 (0xB8 + x.code)] ∧
      RunsKeepingMemory (aluRow .cp x) s (afterCompare (operand s x) (costOf x 1 2) s)) ∧
    (encode (aluImmRow .cp n) = [0xFE#8, n] ∧ RunsKeepingMemory (aluImmRow .cp n) s (afterCompare n 2 s)) ∧
    (∀ r, operand s (.reg r) = s.cpu.reg r) ∧ operand s .mHl = rd8 s s.cpu.hl

/-- 43_alu8.md R205 to R208: INC and DEC of a register or of the byte at HL; the carry flag stays, and a discarded store still
writes the flags. -/
def Obligations.IncrementAndDecrement : Prop :=
  ∀ (s : State) (x : Opnd8),
    let v := operand s x
    (encode (incRow x) = [BitVec.ofNat 8 (0x04 + 8 * x.code)] ∧
      RunsStoring (incRow x) s
        (afterModify x (v + 1#8)
          (packFlags (decide (v = 0xFF#8)) false (decide (v.toNat % 16 = 15)) s.cpu.fC) (costOf x 1 3) s)
        (modifyReach x s)) ∧
    (encode (decRow x) = [BitVec.ofNat 8 (0x05 + 8 * x.code)] ∧
      RunsStoring (decRow x) s
        (afterModify x (v - 1#8)
          (packFlags (decide (v = 0x01#8)) true (decide (v.toNat % 16 = 0)) s.cpu.fC) (costOf x 1 3) s)
        (modifyReach x s))

/-! ### 16-bit arithmetic -/

/-- 44_alu16.md R220 to R223. -/
def Obligations.SixteenBitArithmetic : Prop :=
  ∀ (s : State) (r : Reg16) (e : Byte),
    let hl := s.cpu.hl.toNat
    let v := (s.cpu.reg16 r).toNat
    (encode (addHlRow r) = [BitVec.ofNat 8 (0x09 + 16 * r.code)] ∧
      RunsKeepingMemory (addHlRow r) s
        { s with cpu := { s.cpu.setHl (BitVec.ofNat 16 (hl + v)) with
            f := packFlags (s.cpu.f.getLsbD 7) false (decide (hl % 4096 + v % 4096 > 0x0FFF)) (decide (hl + v > 0xFFFF))
            busy := 1 } }) ∧
    (encode (inc16Row r) = [BitVec.ofNat 8 (0x03 + 16 * r.code)] ∧
      RunsKeepingMemory (inc16Row r) s
        { s with cpu := { s.cpu.setReg16 r (BitVec.ofNat 16 (v + 1)) with busy := 1 } }) ∧
    (encode (dec16Row r) = [BitVec.ofNat 8 (0x0B + 16 * r.code)] ∧
      RunsKeepingMemory (dec16Row r) s
        { s with cpu := { s.cpu.setReg16 r (BitVec.ofInt 16 ((v : Int) - 1)) with busy := 1 } }) ∧
    (encode (.addSpRel e) = [0xE8#8, e] ∧
      RunsKeepingMemory (.addSpRel e) s
        { s with cpu := { s.cpu with
            sp := BitVec.ofInt 16 ((s.cpu.sp.toNat : Int) + e.toInt)
            f := packFlags false false (decide (s.cpu.sp.toNat % 16 + e.toNat % 16 > 0x0F))
              (decide (s.cpu.sp.toNat % 256 + e.toNat > 0xFF))
            busy := 3 } })

/-! ### Accumulator rotates and flag instructions -/

/-- 45_accum_misc.md R230 to R233: as the prefixed rotate of A, but Z is cleared. -/
def Obligations.AccumulatorRotates : Prop :=
  ∀ (s : State),
    let rotates (i : Instr) (op : Rot) : Prop :=
      RunsKeepingMemory i s
        { s with cpu := { s.cpu with
            a := rotated op s.cpu.a s.cpu.fC
            f := packFlags false false false (shiftedOut op s.cpu.a)
            busy := 0 } }
    (encode .rlca = [0x07#8] ∧ rotates .rlca .rlc) ∧ (encode .rrca = [0x0F#8] ∧ rotates .rrca .rrc) ∧
    (encode .rla = [0x17#8] ∧ rotates .rla .rl) ∧ (encode .rra = [0x1F#8] ∧ rotates .rra .rr)

/-- 45_accum_misc.md R234 to R237. -/
def Obligations.DecimalAdjustAndFlagInstructions : Prop :=
  ∀ (s : State),
    let a := s.cpu.a.toNat
    let low := s.cpu.fH || (!s.cpu.fN && decide (a % 16 > 9))
    let high := s.cpu.fC || (!s.cpu.fN && decide (a > 0x99))
    let adj := (if low then 0x06 else 0) + (if high then 0x60 else 0)
    let r := BitVec.ofInt 8 (if s.cpu.fN then (a : Int) - adj else (a : Int) + adj)
    (encode .daa = [0x27#8] ∧
      RunsKeepingMemory .daa s
        { s with cpu := { s.cpu with a := r, f := packFlags (decide (r = 0#8)) s.cpu.fN false high, busy := 0 } }) ∧
    (encode .cpl = [0x2F#8] ∧
      RunsKeepingMemory .cpl s
        { s with cpu := { s.cpu with a := ~~~ s.cpu.a, f := packFlags s.cpu.fZ true true s.cpu.fC, busy := 0 } }) ∧
    (encode .scf = [0x37#8] ∧
      RunsKeepingMemory .scf s { s with cpu := { s.cpu with f := packFlags s.cpu.fZ false false true, busy := 0 } }) ∧
    (encode .ccf = [0x3F#8] ∧
      RunsKeepingMemory .ccf s
        { s with cpu := { s.cpu with f := packFlags s.cpu.fZ false false (!s.cpu.fC), busy := 0 } })

/-- 45_accum_misc.md R234, read as its purpose: after ADD (SUB) of two packed decimal bytes, DAA leaves the packed decimal sum
(difference) mod 100, and C is the decimal carry (borrow). -/
def Obligations.DecimalAdjustMakesDecimalArithmetic : Prop :=
  ∀ (s t u : State) (v : Byte), isBcd s.cpu.a → isBcd v →
    (exec (aluImmRow .add v) s = .next t → exec .daa t = .next u →
      isBcd u.cpu.a ∧ bcdValue u.cpu.a = (bcdValue s.cpu.a + bcdValue v) % 100 ∧
        u.cpu.fC = decide (bcdValue s.cpu.a + bcdValue v ≥ 100)) ∧
    (exec (aluImmRow .sub v) s = .next t → exec .daa t = .next u →
      isBcd u.cpu.a ∧ bcdValue u.cpu.a = (bcdValue s.cpu.a + 100 - bcdValue v) % 100 ∧
        u.cpu.fC = decide (bcdValue s.cpu.a < bcdValue v))

/-! ### Jumps, calls, returns -/

/-- 46_control.md R240 to R244: an untaken form changes nothing but what it costs. -/
def Obligations.Jumps : Prop :=
  ∀ (s : State) (cc : Cond) (nn : Word) (e : Byte),
    let jumpsTo (i : Instr) (pc : Word) (busy : Nat) : Prop :=
      RunsKeepingMemory i s { s with cpu := { s.cpu with pc := pc, busy := busy } }
    (encode (.jpNn nn) = [0xC3#8, loByte nn, hiByte nn] ∧ jumpsTo (.jpNn nn) nn 3) ∧
    (encode (jpRow cc nn) = [BitVec.ofNat 8 (0xC2 + 8 * cc.code), loByte nn, hiByte nn] ∧
      (s.cpu.cond cc = true → jumpsTo (jpRow cc nn) nn 3) ∧ (s.cpu.cond cc = false → jumpsTo (jpRow cc nn) s.cpu.pc 2)) ∧
    (encode .jpHl = [0xE9#8] ∧ jumpsTo .jpHl s.cpu.hl 0) ∧
    (encode (.jrRel e) = [0x18#8, e] ∧ jumpsTo (.jrRel e) (jumped s.cpu.pc e) 2) ∧
    (encode (jrRow cc e) = [BitVec.ofNat 8 (0x20 + 8 * cc.code), e] ∧
      (s.cpu.cond cc = true → jumpsTo (jrRow cc e) (jumped s.cpu.pc e) 2) ∧
      (s.cpu.cond cc = false → jumpsTo (jrRow cc e) s.cpu.pc 1)) ∧
    (s.cpu.cond .nz = !s.cpu.f.getLsbD 7 ∧ s.cpu.cond .z = s.cpu.f.getLsbD 7 ∧
      s.cpu.cond .nc = !s.cpu.f.getLsbD 4 ∧ s.cpu.cond .c = s.cpu.f.getLsbD 4)

/-- 46_control.md R245, R246, R250: PC pushed high byte first, then replaced; untaken, nothing is pushed. -/
def Obligations.CallsAndRestarts : Prop :=
  ∀ (s : State) (cc : Cond) (nn : Word) (t : Oct),
    let calls (i : Instr) (pc : Word) (busy : Nat) : Prop :=
      RunsStoring i s
        (let m := pushed s.cpu.pc s; { m with cpu := { s.cpu with sp := s.cpu.sp - 2#16, pc := pc, busy := busy } })
        (pushReach s.cpu.pc s)
    (encode (.callNn nn) = [0xCD#8, loByte nn, hiByte nn] ∧ calls (.callNn nn) nn 5) ∧
    (encode (callRow cc nn) = [BitVec.ofNat 8 (0xC4 + 8 * cc.code), loByte nn, hiByte nn] ∧
      (s.cpu.cond cc = true → calls (callRow cc nn) nn 5) ∧
      (s.cpu.cond cc = false → RunsKeepingMemory (callRow cc nn) s { s with cpu := { s.cpu with busy := 2 } })) ∧
    (encode (rstRow t) = [BitVec.ofNat 8 (0xC7 + 8 * t.val)] ∧ calls (rstRow t) (BitVec.ofNat 16 (8 * t.val)) 3)

/-- 46_control.md R247, R248, R249: RETI sets IME at once, RET does not touch it. -/
def Obligations.Returns : Prop :=
  ∀ (s : State) (cc : Cond),
    let returns (i : Instr) (ime : Bool) (busy : Nat) : Prop :=
      RunsKeepingMemory i s
        { s with cpu := { s.cpu with sp := s.cpu.sp + 2#16, pc := topWord s, ime := ime, busy := busy } }
    (encode .ret = [0xC9#8] ∧ returns .ret s.cpu.ime 3) ∧
    (encode (retRow cc) = [BitVec.ofNat 8 (0xC0 + 8 * cc.code)] ∧
      (s.cpu.cond cc = true → returns (retRow cc) s.cpu.ime 4) ∧
      (s.cpu.cond cc = false → RunsKeepingMemory (retRow cc) s { s with cpu := { s.cpu with busy := 1 } })) ∧
    (encode .reti = [0xD9#8] ∧ returns .reti true 3)

/-! ### The prefixed instructions -/

/-- 47_cb_shift.md R261 to R268 (with R260): the four rotates of a register or of the byte at HL. -/
def Obligations.PrefixedRotates : Prop :=
  ∀ (s : State) (op : Rot) (x : Opnd8), op = .rlc ∨ op = .rrc ∨ op = .rl ∨ op = .rr →
    let v := operand s x
    encode (rotRow op x) = [0xCB#8, BitVec.ofNat 8 (8 * op.code + x.code)] ∧
    RunsStoring (rotRow op x) s
      (afterModify x (rotated op v s.cpu.fC)
        (packFlags (decide (rotated op v s.cpu.fC = 0#8)) false false (shiftedOut op v)) (costOf x 2 4) s)
      (modifyReach x s)

/-- 47_cb_shift.md R269 to R276 (with R260): SLA, SRA, SWAP, SRL; SWAP clears C. -/
def Obligations.PrefixedShiftsAndSwap : Prop :=
  ∀ (s : State) (op : Rot) (x : Opnd8), op = .sla ∨ op = .sra ∨ op = .swap ∨ op = .srl →
    let v := operand s x
    encode (rotRow op x) = [0xCB#8, BitVec.ofNat 8 (8 * op.code + x.code)] ∧
    RunsStoring (rotRow op x) s
      (afterModify x (rotated op v s.cpu.fC)
        (packFlags (decide (rotated op v s.cpu.fC = 0#8)) false false (shiftedOut op v)) (costOf x 2 4) s)
      (modifyReach x s)

/-- 48_cb_bit.md R280, R281: Z the complement of the tested bit, H set, C unchanged, nothing else changed. -/
def Obligations.BitTests : Prop :=
  ∀ (s : State) (b : Oct) (x : Opnd8),
    encode (bitRow b x) = [0xCB#8, BitVec.ofNat 8 (0x40 + 8 * b.val + x.code)] ∧
    RunsKeepingMemory (bitRow b x) s
      { s with cpu := { s.cpu with
          f := packFlags (!(operand s x).getLsbD b.val) false true s.cpu.fC
          busy := costOf x 2 3 - 1 } }

/-- 48_cb_bit.md R282 to R285: one bit cleared or set, no flag changed. -/
def Obligations.BitResetAndSet : Prop :=
  ∀ (s : State) (b : Oct) (x : Opnd8),
    let v := operand s x
    (encode (resRow b x) = [0xCB#8, BitVec.ofNat 8 (0x80 + 8 * b.val + x.code)] ∧
      RunsStoring (resRow b x) s (afterModify x (v &&& ~~~ (1#8 <<< b.val)) s.cpu.f (costOf x 2 4) s)
        (modifyReach x s)) ∧
    (encode (setRow b x) = [0xCB#8, BitVec.ofNat 8 (0xC0 + 8 * b.val + x.code)] ∧
      RunsStoring (setRow b x) s (afterModify x (v ||| (1#8 <<< b.val)) s.cpu.f (costOf x 2 4) s)
        (modifyReach x s))

/-! ### Encoding -/

/-- 30_encoding.md R90 to R97: every well-formed instruction, with every operand, decodes from its bytes to itself, whatever bytes
follow, and the rest is what follows. -/
def Obligations.DecodeOfEncodeIsTheInstruction : Prop :=
  ∀ (i : Instr) (rest : List Byte), i.wf = true → decode (encode i ++ rest) = .ok (i, rest)

/-- 30_encoding.md R90, R97, R98: three bytes always decode, to a well-formed instruction of one to three bytes whose encoding is
the bytes it took: no byte string has a second reading, none is refused, none reads as the bare prefix. -/
def Obligations.EveryByteStringHasOneReading : Prop :=
  ∀ b0 b1 b2 : Byte, ∃ i rest,
    decode [b0, b1, b2] = .ok (i, rest) ∧ i.wf = true ∧ encode i ++ rest = [b0, b1, b2] ∧ 1 ≤ i.length ∧ i.length ≤ 3 ∧
      ∀ j rest', j.wf = true → encode j ++ rest' = [b0, b1, b2] → j = i ∧ rest' = rest

/-- 30_encoding.md R95, R96: words of the two maps, written out. -/
def Obligations.WordsOfTheOpcodeMaps : Prop :=
  decode [0x00#8] = .ok (.nop, []) ∧ decode [0x76#8] = .ok (.halt, []) ∧ decode [0x10#8, 0x00#8] = .ok (.stop 0x00#8, []) ∧
  decode [0x41#8] = .ok (.ldBC, []) ∧ decode [0x06#8, 0x7F#8] = .ok (.ldBN 0x7F#8, []) ∧
  decode [0x31#8, 0xFE#8, 0xFF#8] = .ok (.ldSpNn 0xFFFE#16, []) ∧ decode [0xF8#8, 0x08#8] = .ok (.ldHlSpE 0x08#8, []) ∧
  decode [0x8B#8] = .ok (.adcAE, []) ∧ decode [0xFE#8, 0x3C#8] = .ok (.cpN 0x3C#8, []) ∧
  decode [0x29#8] = .ok (.addHlHl, []) ∧ decode [0x27#8] = .ok (.daa, []) ∧
  decode [0xCA#8, 0x00#8, 0x80#8] = .ok (.jpZNn 0x8000#16, []) ∧ decode [0xEF#8] = .ok (rstRow .o5, []) ∧
  decode [0xCB#8, 0x37#8] = .ok (.swapA, []) ∧ decode [0xCB#8, 0x9E#8] = .ok (.res3MHl, []) ∧
  decode [0xCB#8, 0xCB#8] = .ok (.set1E, []) ∧ decode [0xD3#8] = .ok (.undefD3, [])

/-! ### The engine -/

/-- 40_engine_system.md R112, R113, R115, R116: a tick at an instruction boundary at which no interrupt is taken is `exec` of the
instruction that the bytes at PC decode to, in the state after the host's turn with PC past those bytes, the HALT quirk spent and a
scheduled enable made; then the phase and the other units move on. Quirk and enable as decisions D10, D11 read them. -/
def Obligations.StepRunsTheDecodedInstruction : Prop :=
  ∀ (s : State) (i : Instr) (rest : List Byte),
    let u := hostTurn s
    let p := if u.cpu.haltBug then u.cpu.pc else u.cpu.pc + 1#16
    s.cpu.phase = 0 → s.cpu.halted = false → s.cpu.busy = 0 → (u.cpu.ime = false ∨ u.ieReg &&& u.ifReg &&& 0x1F#8 = 0#8) →
    decode [rd8 u u.cpu.pc, rd8 u p, rd8 u (p + 1#16)] = .ok (i, rest) →
    step s =
      mapNext (fun t => unitsTurn { t with cpu := { t.cpu with phase := t.cpu.phase + 1 } })
        (exec i { u with cpu := { u.cpu with
          pc := p + BitVec.ofNat 16 (i.length - 1)
          haltBug := false
          ime := u.cpu.ime || u.cpu.imeSched
          imeSched := false } })

/-- 40_engine_system.md R110, 60_exceptions.md R302: the order of a tick, the tick counted, and what the host may do: set IF bit 3,
set IF bit 4, overwrite the joypad byte, once a tick; 20_memory.md R58: the audio unit's clock, nothing for the default unit, one more
event an undescribed one is told (log entry 6). The host's list is log entry 7, the agent decision D40. -/
def Obligations.TickOrderAndTheHost : Prop :=
  (∀ s : State,
    step s = mapNext (fun u => { audioClock (dmaClock (timerClock (ppuClock u))) with tick := s.tick + 1 })
      (cpuTick (hostTurn s))) ∧
  (∀ (g : State → State) (s : State), mapNext g (.next s) = .next (g s)) ∧
  (∀ s : State, s.audio.external = false → audioClock s = s) ∧
  (∀ s : State, s.audio.external = true →
    audioClock s = { s with audio := { s.audio with told := .clock :: s.audio.told } }) ∧
  (∀ s : State, s.host = [] → hostTurn s = { s with frameDone := false }) ∧
  (∀ (s : State) (act : HostAct) (rest : List HostAct), s.host = act :: rest →
    hostTurn s =
      { s with
        host := rest
        frameDone := false
        ifReg := s.ifReg ||| (if act.serial then 0x08#8 else 0#8) ||| (if act.joypad then 0x10#8 else 0#8)
        mem := match act.joypByte with | some v => s.mem.write 0xFF00 v | none => s.mem })

/-- 40_engine_system.md R111, R112, R120: what the Processor does in a tick that runs no instruction.
The empty wake-up boundary is decision D9. -/
def Obligations.BoundariesWithoutAnInstruction : Prop :=
  ∀ s : State,
    let on (k : Cpu) : Result := .next { s with cpu := { k with phase := s.cpu.phase + 1 } }
    (s.cpu.phase ≠ 0 → cpuTick s = on s.cpu) ∧
    (s.cpu.phase = 0 → s.cpu.halted = true → s.ieReg &&& s.ifReg &&& 0x1F#8 = 0#8 → cpuTick s = on s.cpu) ∧
    (s.cpu.phase = 0 → s.cpu.halted = true → s.ieReg &&& s.ifReg &&& 0x1F#8 ≠ 0#8 →
      cpuTick s = on { s.cpu with halted := false }) ∧
    (s.cpu.phase = 0 → s.cpu.halted = false → s.cpu.busy ≠ 0 → cpuTick s = on { s.cpu with busy := s.cpu.busy - 1 }) ∧
    (s.cpu.phase = 0 → s.cpu.halted = false → s.cpu.busy = 0 → s.cpu.ime = true →
      s.ieReg &&& s.ifReg &&& 0x1F#8 ≠ 0#8 →
      cpuTick s = .next { dispatch s with cpu := { (dispatch s).cpu with phase := s.cpu.phase + 1 } })

/-- 40_engine_system.md R114: whatever a boundary tick does (an instruction or a dispatch), with cost N the Processor's registers
stay as that tick left them until the next boundary, exactly 4N ticks after it. The counter as decision D7 reads it. -/
def Obligations.CostIsFourTicksAMachineCycle : Prop :=
  ∀ s t : State, s.cpu.phase = 0 → s.cpu.halted = false → s.cpu.busy = 0 → step s = .next t → t.cpu.halted = false →
    (∀ k, 1 ≤ k → k ≤ 4 * (t.cpu.busy + 1) → ∃ u : State, core.run k s = .next u ∧
      u.cpu = { t.cpu with busy := t.cpu.busy - (k - 1) / 4, phase := Fin.ofNat 4 k }) ∧
    ∃ u : State, core.run (4 * (t.cpu.busy + 1)) s = .next u ∧ u.cpu = { t.cpu with busy := 0, phase := 0 }

/-- 40_engine_system.md R126: from `halted = 1` with `IE & 0x1F = 0`, for every number of ticks and every host, the Processor stays
halted, its registers are final, and so is every byte of video RAM, work RAM and its echo, the unusable region and HRAM, and IE.
"Stopped" as decision D41 defines it. -/
def Obligations.StoppedProcessorNeverRunsAgain : Prop :=
  ∀ (n : Nat) (s : State), s.cpu.halted = true → s.ieReg &&& 0x1F#8 = 0#8 →
    ∃ t : State, core.run n s = .next t ∧ t.cpu = { s.cpu with phase := t.cpu.phase } ∧ t.ieReg = s.ieReg ∧
      ∀ a : Word, plain a → ¬ (0xFE00 ≤ a.toNat ∧ a.toNat ≤ 0xFE9F) → rawRead t a = rawRead s a

/-! ### Interrupts -/

/-- 60_exceptions.md R301, R304, R306, R307: the entry: IME and the scheduled enable off, PC pushed, then the lowest pending request
left by the pushes cleared and entered at 0x0040 + 8i; with none left, PC is 0x0000 and IF stays. Nothing else changes.
Decisions D10, D21, D43. -/
def Obligations.InterruptEntry : Prop :=
  ∀ s : State,
    let m := pushed s.cpu.pc s
    let q := m.ieReg &&& m.ifReg &&& 0x1F#8
    let enter (pc : Word) (f : Byte) : State :=
      { m with
        ifReg := f
        cpu := { s.cpu with ime := false, imeSched := false, sp := s.cpu.sp - 2#16, pc := pc, busy := 4 } }
    (∀ i, i < 5 → q.getLsbD i = true → (∀ j, j < i → q.getLsbD j = false) →
      dispatch s = enter (BitVec.ofNat 16 (0x0040 + 8 * i)) (m.ifReg &&& ~~~ (1#8 <<< i))) ∧
    (q = 0#8 → dispatch s = enter 0x0000#16 m.ifReg) ∧
    (q ≠ 0#8 → ∃ i, i < 5 ∧ q.getLsbD i = true ∧ ∀ j, j < i → q.getLsbD j = false)

/-- 46_control.md R249, 60_exceptions.md R308, 42_load16_stack.md R174, R175: with the stack in plain memory that no transfer blocks,
RETI run on what an interrupt entry left undoes it (PC and SP are back, the pairs untouched, IME is on), and a pair pushed and
popped into any pair comes back (F with its low nibble cleared), SP where it was. -/
def Obligations.StackRoundTrips : Prop :=
  ∀ s : State, plain (s.cpu.sp - 1#16) → plain (s.cpu.sp - 2#16) →
    dmaBlocks s (s.cpu.sp - 1#16) = false → dmaBlocks s (s.cpu.sp - 2#16) = false →
    (∃ t, exec .reti (dispatch s) = .next t ∧ t.cpu.pc = s.cpu.pc ∧ t.cpu.sp = s.cpu.sp ∧ t.cpu.ime = true ∧
      t.cpu.af = s.cpu.af ∧ t.cpu.bc = s.cpu.bc ∧ t.cpu.de = s.cpu.de ∧ t.cpu.hl = s.cpu.hl) ∧
    (∀ r q : PairQ, ∃ t u, exec (pushRow r) s = .next t ∧ exec (popRow q) t = .next u ∧ u.cpu.sp = s.cpu.sp ∧
      u.cpu.pairQ q = (if q = .af then s.cpu.pairQ r &&& 0xFFF0#16 else s.cpu.pairQ r))

/-! ### The whole machine -/

/-- 60_exceptions.md R300, 93_implementation_defined.md part 1: no state and no instruction faults or is refused. -/
def Obligations.NothingEverStops : Prop :=
  (∀ (i : Instr) (s : State), ∃ t, exec i s = .next t) ∧ (∀ s : State, ∃ t, step s = .next t) ∧
    ∀ (n : Nat) (s : State), ∃ t : State, core.run n s = .next t

/-- Every step keeps the invariant: canonical storage, F[3:0] = 0, the timer's windows, the DMA countdown, the Pixel Unit's line.
The storage's form is log entry 2. -/
def Obligations.StepKeepsTheInvariant : Prop := ∀ s t : State, Inv s → step s = .next t → Inv t

/-- The invariant holds after reset. -/
def Obligations.ResetHasTheInvariant : Prop := Inv State.reset

/-- 10_state.md R12: no instruction makes F[3:0] non-zero, nor does an interrupt entry. The high nibble is decision D2. -/
def Obligations.FlagByteLowNibbleStaysZero : Prop :=
  ∀ (i : Instr) (s t : State), s.cpu.f &&& 0x0F#8 = 0#8 →
    (exec i s = .next t → t.cpu.f &&& 0x0F#8 = 0#8) ∧ (dispatch s).cpu.f &&& 0x0F#8 = 0#8

/-- 10_state.md R32 to R35, 00_scope.md R5, 70_reset_and_hazards.md R381, R382: the whole machine after reset, in the spec's own
defaults: registers and units, the parameters, the default collaborators, an idle host, and every stored byte, image byte and pixel 0.
They are the spec's own choice (D3 to D6, D20, D23, D27, D28, D36, D38 to D40, D44; log entries 1, 2, 3, 5 to 8). -/
def Obligations.ResetState : Prop :=
  let s := State.reset
  s.cpu =
    { a := 0x01#8, f := 0xB0#8, b := 0x00#8, c := 0x13#8, d := 0x00#8, e := 0xD8#8, h := 0x01#8, l := 0x4D#8
      sp := 0xFFFE#16, pc := 0x0100#16, ime := false, halted := false, imeSched := false, haltBug := false, busy := 0
      phase := 0 } ∧
  s.timer =
    { counter := 0xABCC#16, delayedBit := false, overflowPending := false, preReload := 0, postReload := 0
      tima := 0x00#8, tma := 0x00#8, tac := 0xF8#8, reloadOverride := none } ∧
  s.ifReg = 0x00#8 ∧ s.ieReg = 0x00#8 ∧ s.dma = { source := 0xFF#8, inProgress := false, remaining := 0 } ∧
  s.ppu =
    { lcdc := 0x91#8, stat := 0x86#8, scy := 0x00#8, scx := 0x00#8, ly := 0x00#8, lyc := 0x00#8, bgp := 0xFC#8
      obp0 := 0xFF#8, obp1 := 0xFF#8, wy := 0x00#8, wx := 0x00#8, mode := .oamScan, dotsRemaining := 80, dotsLine := 0
      px := 0, drawDelay := 12, sprites := scanSprites s.mem 8 0, lycLatch := true, fb := s.ppu.fb } ∧
  s.tick = 0 ∧ rawRead s 0xFF04#16 = 0xAB#8 ∧ rawRead s 0xFF0F#16 = 0xE0#8 ∧ rawRead s 0xFFFF#16 = 0xE0#8 ∧
  s.cfg =
    { dmaTicks := 640, timaWindowA := .storeOnly, lcdOffDots := 0, shade1 := ⟨170#8, 170#8, 170#8, 255#8⟩
      shade2 := ⟨85#8, 85#8, 85#8, 255#8⟩, shade3 := ⟨0#8, 0#8, 0#8, 255#8⟩, audioReadOrMask := [] } ∧
  (s.cart.external = false ∧ s.cart.told = [] ∧ ∀ k, s.cart.image.read k = 0x00#8) ∧
  s.audio = { external := false, told := [] } ∧ s.host = [] ∧ s.penalties = [] ∧ s.frameDone = false ∧
  (∀ k, s.mem.read k = 0x00#8) ∧ ∀ x y, s.ppu.fb.read x y = ⟨0#8, 0#8, 0#8, 0#8⟩

/-- 10_state.md R30, 20_memory.md R57: no tick changes a parameter, the cartridge image, or which collaborators are plugged in.
That the parameters stand in State is log entry 3. -/
def Obligations.ParametersNeverChange : Prop :=
  ∀ s t : State, step s = .next t →
    t.cfg = s.cfg ∧ t.cart.image = s.cart.image ∧ t.cart.external = s.cart.external ∧ t.audio.external = s.audio.external ∧
      (s.cart.external = false → t.cart = s.cart) ∧ (s.audio.external = false → t.audio = s.audio)

/-! ### The bus -/

/-- 20_memory.md R52, R53: during a transfer every Processor access outside HRAM reads 0xFF and stores nothing; otherwise it is the
unblocked access. I/O and IE are included by decision D21. -/
def Obligations.TransferBlocksTheProcessor : Prop :=
  ∀ (s : State) (a : Word) (v : Byte),
    (s.dma.inProgress = true → ¬ (0xFF80 ≤ a.toNat ∧ a.toNat ≤ 0xFFFE) → rd8 s a = 0xFF#8 ∧ wr8 a v s = s) ∧
    (s.dma.inProgress = false ∨ (0xFF80 ≤ a.toNat ∧ a.toNat ≤ 0xFFFE) →
      rd8 s a = rawRead s a ∧ wr8 a v s = rawWrite a v s)

/-- 20_memory.md R54, R57, R58, R59: the read decode, by address, whichever collaborators are plugged in: the audio mask is applied
whoever answers, and the answer of an undescribed collaborator is a free value (log entries 5, 6). The echo has no storage (log entry 9). -/
def Obligations.ReadDecode : Prop :=
  ∀ (s : State) (a : Word),
    let n := a.toNat
    (inCart a → rawRead s a = s.cart.read a ∧
      (s.cart.external = false → rawRead s a = if n < 0x8000 then s.cart.image.read n else 0xFF#8) ∧
      (s.cart.external = true → rawRead s a = Config.cartAnswer s.cart.image s.cart.told a)) ∧
    (inAudio a → rawRead s a = audioRead s a ||| Memory.read s.cfg.audioReadOrMask n) ∧
    (inAudio a → s.audio.external = true →
      rawRead s a = Config.audioAnswer s.audio.told a ||| Memory.read s.cfg.audioReadOrMask n) ∧
    (inAudio a → s.audio.external = false → rawRead s a = s.mem.read n ||| Memory.read s.cfg.audioReadOrMask n) ∧
    (n = 0xFF04 → rawRead s a = s.timer.counter.extractLsb' 8 8) ∧ (n = 0xFF05 → rawRead s a = s.timer.tima) ∧
    (n = 0xFF06 → rawRead s a = s.timer.tma) ∧ (n = 0xFF07 → rawRead s a = s.timer.tac) ∧
    (n = 0xFF0F → rawRead s a = s.ifReg ||| 0xE0#8) ∧ (n = 0xFFFF → rawRead s a = s.ieReg ||| 0xE0#8) ∧
    (n = 0xFF40 → rawRead s a = s.ppu.lcdc) ∧ (n = 0xFF41 → rawRead s a = s.ppu.stat) ∧
    (n = 0xFF42 → rawRead s a = s.ppu.scy) ∧ (n = 0xFF43 → rawRead s a = s.ppu.scx) ∧
    (n = 0xFF44 → rawRead s a = s.ppu.ly) ∧ (n = 0xFF45 → rawRead s a = s.ppu.lyc) ∧
    (n = 0xFF46 → rawRead s a = s.dma.source) ∧ (n = 0xFF47 → rawRead s a = s.ppu.bgp) ∧
    (n = 0xFF48 → rawRead s a = s.ppu.obp0) ∧ (n = 0xFF49 → rawRead s a = s.ppu.obp1) ∧
    (n = 0xFF4A → rawRead s a = s.ppu.wy) ∧ (n = 0xFF4B → rawRead s a = s.ppu.wx) ∧
    ((0x8000 ≤ n ∧ n < 0xA000) ∨ (0xC000 ≤ n ∧ n < 0xE000) ∨ (0xFE00 ≤ n ∧ n < 0xFF04) ∨ (0xFF08 ≤ n ∧ n < 0xFF0F) ∨
        (0xFF4C ≤ n ∧ n ≤ 0xFFFE) → rawRead s a = s.mem.read n) ∧
    (0xE000 ≤ n → n < 0xFE00 → rawRead s a = s.mem.read (n - 0x2000))

/-- 20_memory.md R55, R57, R58: the write decode, by address, whichever collaborators are plugged in: an undescribed one is told of the store
(log entries 5, 6); the registers with side effects have statements of their own. The echo has no storage (log entry 9). -/
def Obligations.WriteDecode : Prop :=
  ∀ (s : State) (a : Word) (v : Byte),
    let n := a.toNat
    (inCart a → rawWrite a v s = { s with cart := s.cart.write a v } ∧ (s.cart.external = false → rawWrite a v s = s) ∧
      (s.cart.external = true → rawWrite a v s = { s with cart := { s.cart with told := (a, v) :: s.cart.told } })) ∧
    (inAudio a → rawWrite a v s = audioWrite a v s) ∧
    (inAudio a → s.audio.external = true →
      rawWrite a v s = { s with audio := { s.audio with told := .write a v :: s.audio.told } }) ∧
    (inAudio a → s.audio.external = false → rawWrite a v s = { s with mem := s.mem.write n v }) ∧
    (n = 0xFF04 → rawWrite a v s = { s with timer := s.timer.resetCounter }) ∧
    (n = 0xFF05 → rawWrite a v s = { s with timer := s.timer.writeTima s.cfg.timaWindowA v }) ∧
    (n = 0xFF06 → rawWrite a v s = { s with timer := s.timer.writeTma v }) ∧
    (n = 0xFF07 → rawWrite a v s = { s with timer := s.timer.writeTac v }) ∧
    (n = 0xFF0F → rawWrite a v s = { s with ifReg := v }) ∧ (n = 0xFFFF → rawWrite a v s = { s with ieReg := v }) ∧
    (n = 0xFF40 → rawWrite a v s = writeLcdc v s) ∧
    (n = 0xFF41 →
      rawWrite a v s = { s with ppu := { s.ppu with stat := (v &&& 0xF8#8) ||| (s.ppu.stat &&& 0x07#8) } }) ∧
    (n = 0xFF42 → rawWrite a v s = { s with ppu := { s.ppu with scy := v } }) ∧
    (n = 0xFF43 → rawWrite a v s = { s with ppu := { s.ppu with scx := v } }) ∧
    (n = 0xFF44 → rawWrite a v s = s) ∧
    (n = 0xFF45 → rawWrite a v s = { s with ppu := { s.ppu with lyc := v } }) ∧
    (n = 0xFF46 → rawWrite a v s = { s with dma := { source := v, inProgress := true, remaining := s.cfg.dmaTicks } }) ∧
    (n = 0xFF47 → rawWrite a v s = { s with ppu := { s.ppu with bgp := v } }) ∧
    (n = 0xFF48 → rawWrite a v s = { s with ppu := { s.ppu with obp0 := v } }) ∧
    (n = 0xFF49 → rawWrite a v s = { s with ppu := { s.ppu with obp1 := v } }) ∧
    (n = 0xFF4A → rawWrite a v s = { s with ppu := { s.ppu with wy := v } }) ∧
    (n = 0xFF4B → rawWrite a v s = { s with ppu := { s.ppu with wx := v } }) ∧
    ((0x8000 ≤ n ∧ n < 0xA000) ∨ (0xC000 ≤ n ∧ n < 0xE000) ∨ (0xFE00 ≤ n ∧ n < 0xFF04) ∨ (0xFF08 ≤ n ∧ n < 0xFF0F) ∨
        (0xFF4C ≤ n ∧ n ≤ 0xFFFE) → rawWrite a v s = { s with mem := s.mem.write n v }) ∧
    (0xE000 ≤ n → n < 0xFE00 → rawWrite a v s = { s with mem := s.mem.write (n - 0x2000) v })

/-- 20_memory.md R55 read as a frame: a Processor store leaves every byte outside its reach as it was. -/
def Obligations.StoreLeavesOtherBytes : Prop :=
  ∀ (s : State) (a b : Word) (v : Byte), ¬ storeReach s a b → rawRead (wr8 a v s) b = rawRead s b

/-- 20_memory.md R56, R64, R67: an unblocked store to a plain byte is seen by a load from it and from its mirror, and from no other
plain byte; a two-byte access is its two bytes, the low one at the lower address. Decisions D16, D46. -/
def Obligations.LoadSeesTheStore : Prop :=
  (∀ (s : State) (a b : Word) (v : Byte), plain a → dmaBlocks s a = false →
    rd8 (wr8 a v s) a = v ∧
    (0xC000 ≤ a.toNat → a.toNat < 0xDE00 → rawRead (wr8 a v s) (a + 0x2000#16) = v) ∧
    (0xE000 ≤ a.toNat → a.toNat < 0xFE00 → rawRead (wr8 a v s) (a - 0x2000#16) = v) ∧
    (b ≠ a → b ≠ a + 0x2000#16 → b ≠ a - 0x2000#16 → rawRead (wr8 a v s) b = rawRead s b)) ∧
  (∀ (s : State) (a : Word), 0xC000 ≤ a.toNat → a.toNat < 0xDE00 → rawRead s (a + 0x2000#16) = rawRead s a) ∧
  (∀ (s : State) (a w : Word), rd16 s a = rd8 s (a + 1#16) ++ rd8 s a ∧
    wr16 a w s = wr8 (a + 1#16) (w.extractLsb' 8 8) (wr8 a (w.extractLsb' 0 8) s))

/-! ### The Timer Unit -/

/-- 60_exceptions.md R322 to R325: one clock of the timer, in the order of its four steps, with its request.
The order of the steps is decision D22. -/
def Obligations.TimerClock : Prop :=
  ∀ s : State,
    let t := s.timer
    let post := if 0 < t.postReload then t.postReload - 1 else 0
    let ends := decide (t.preReload = 1)
    let tima := if ends then t.reloadOverride.getD t.tma else t.tima
    let pre := t.preReload - 1
    let counter := t.counter + 1#16
    let sel := [9, 3, 5, 7].getD (t.tac.toNat % 4) 0
    let new := counter.getLsbD sel && t.tac.getLsbD 2
    let fell := t.delayedBit && !new
    let overflows := fell && decide (tima = 0xFF#8)
    timerClock s =
      { s with
        ifReg := if ends then s.ifReg ||| 0x04#8 else s.ifReg
        timer :=
          { t with
            counter := counter
            delayedBit := new
            tima := if fell then tima + 1#8 else tima
            preReload := if overflows then 4 else pre
            overflowPending := overflows || (t.overflowPending && !ends)
            postReload := if ends then 4 else post
            reloadOverride := if ends then none else t.reloadOverride } }

/-- 60_exceptions.md R326, R327, R332: from an overflow made by a clock with no window open, TIMA reads 0x00 after that clock and the
next three, the fifth clock makes the request and the reload from TMA, TIMA reads TMA for the four ticks of window B, and no other
clock of the eight requests: at every select, whatever the counter. -/
def Obligations.TimerWindowsTimeline : Prop :=
  ∀ t : Timer,
    t.preReload = 0 → t.postReload = 0 → t.reloadOverride = none → t.tima = 0xFF#8 → t.delayedBit = true →
    Timer.sample { t with counter := t.counter + 1#16 } = false →
    ∀ k, k ≤ 9 →
      (iter Timer.clock k t).tima = (if k = 0 then 0xFF#8 else if k ≤ 4 then 0x00#8 else t.tma) ∧
      (iter Timer.clock k t).preReload = (if 1 ≤ k ∧ k ≤ 4 then 5 - k else 0) ∧
      (iter Timer.clock k t).postReload = (if 5 ≤ k ∧ k ≤ 8 then 9 - k else 0) ∧
      (iter Timer.clock k t).endsWindowA = decide (k = 4)

/-- 60_exceptions.md R328 to R331: the bus writes to DIV, TIMA, TMA and TAC. Decisions D23, D24, D25, D26. -/
def Obligations.TimerRegisterWrites : Prop :=
  ∀ (t : Timer) (v : Byte),
    (t.resetCounter =
      { t with
        counter := 0#16
        delayedBit := false
        tima := if t.delayedBit then t.tima + 1#8 else t.tima
        overflowPending := (t.delayedBit && decide (t.tima = 0xFF#8)) || t.overflowPending
        preReload := if t.delayedBit = true ∧ t.tima = 0xFF#8 then 4 else t.preReload }) ∧
    (0 < t.preReload → t.writeTima .storeOnly v = { t with tima := v } ∧
      t.writeTima .cancel v = { t with tima := v, overflowPending := false, preReload := 0 } ∧
      t.writeTima .replaceReload v = { t with reloadOverride := some v }) ∧
    (t.preReload = 0 → 0 < t.postReload → ∀ how, t.writeTima how v = t) ∧
    (t.preReload = 0 → t.postReload = 0 → ∀ how, t.writeTima how v = { t with tima := v }) ∧
    (0 < t.postReload → t.writeTma v = { t with tma := v, tima := v }) ∧
    (t.postReload = 0 → t.writeTma v = { t with tma := v }) ∧
    t.writeTac v = { t with tac := v }

/-! ### The DMA Unit -/

/-- 60_exceptions.md R341, R342: the first tick of a transfer copies the 160 bytes of the source page, read through the unblocked
decode as they stood, to OAM, and no other stored byte; every tick counts down, and the last ends the transfer. Decision D20. -/
def Obligations.TransferCopiesThePage : Prop :=
  ∀ s : State,
    (s.dma.inProgress = false → dmaClock s = s) ∧
    (s.dma.inProgress = true →
      (dmaClock s).dma =
        { s.dma with remaining := s.dma.remaining - 1, inProgress := decide (s.dma.remaining - 1 ≠ 0) } ∧
      dmaClock s = { s with mem := (dmaClock s).mem, dma := (dmaClock s).dma } ∧
      (s.dma.remaining ≠ s.cfg.dmaTicks → (dmaClock s).mem = s.mem) ∧
      (s.dma.remaining = s.cfg.dmaTicks →
        (∀ i, i < 160 → (dmaClock s).mem.read (0xFE00 + i) = rawRead s (BitVec.ofNat 16 (256 * s.dma.source.toNat + i))) ∧
        (∀ k, k < 0xFE00 ∨ 0xFE9F < k → (dmaClock s).mem.read k = s.mem.read k)))

/-- 60_exceptions.md R341, R343: whatever the Processor and the host do, a transfer with n ticks left stays in progress for n ticks and
ends after exactly n: it cannot be restarted, extended or cancelled. -/
def Obligations.TransferRunsToCompletion : Prop :=
  ∀ s : State, Inv s → s.dma.inProgress = true →
    ∀ k, k ≤ s.dma.remaining → ∃ t : State, core.run k s = .next t ∧ t.dma.source = s.dma.source ∧
      t.dma.remaining = s.dma.remaining - k ∧ t.dma.inProgress = decide (k < s.dma.remaining)

/-! ### The Pixel Unit -/

/-- 60_exceptions.md R351, R354: with the LCD on, a line lasts exactly 456 dots, whatever SCX and the sprite penalty make of its
modes, LY holds throughout, and the next line follows, 0 after 153. The penalties are log entry 8. -/
def Obligations.LineLasts456Dots : Prop :=
  ∀ s : State, Inv s → s.ppu.lcdc.getLsbD 7 = true →
    s.ppu.dotsLine < 456 ∧
    (∀ k, s.ppu.dotsLine + k < 456 →
      (iter ppuClock k s).ppu.ly = s.ppu.ly ∧ (iter ppuClock k s).ppu.dotsLine = s.ppu.dotsLine + k) ∧
    (iter ppuClock (456 - s.ppu.dotsLine) s).ppu.dotsLine = 0 ∧
    (iter ppuClock (456 - s.ppu.dotsLine) s).ppu.ly.toNat = (s.ppu.ly.toNat + 1) % 154

/-- 60_exceptions.md R361, R373: a clock of the Pixel Unit requests VBlank and completes the frame exactly when it ends line 143.
`frameDone` is log entry 12. -/
def Obligations.VBlankAtTheEndOfLine143 : Prop :=
  ∀ s : State, Inv s →
    let last := s.ppu.lcdc.getLsbD 7 && decide (s.ppu.ly = 143#8 ∧ s.ppu.dotsLine = 455)
    (ppuClock s).ifReg.getLsbD 0 = (s.ifReg.getLsbD 0 || last) ∧ (ppuClock s).frameDone = (s.frameDone || last) ∧
      (last = true → (ppuClock s).ppu.mode = .vblank ∧ (ppuClock s).ppu.ly = 144#8 ∧ (ppuClock s).ppu.dotsRemaining = 456)

/-- 60_exceptions.md R352, R360, R370, 10_state.md R27: pixel x of the line is produced in line dot 80 + `draw_delay` + x of Drawing, one
a dot, with the registers and memory of that tick, and no other dot touches the frame buffer; a pixel is one cell of it; shade 0 is
white and the others are the parameter's. Decisions D28, D36. -/
def Obligations.OnePixelPerDrawingDot : Prop :=
  (∀ s : State, Inv s →
    let start := 80 + s.ppu.drawDelay
    let x := s.ppu.dotsLine - start
    if s.ppu.lcdc.getLsbD 7 = true ∧ s.ppu.mode = .drawing ∧ start ≤ s.ppu.dotsLine ∧ x < 160 then
      (ppuClock s).ppu.fb =
        s.ppu.fb.write x s.ppu.ly.toNat (shadeRgba s.cfg (pixelShade s.mem s.ppu x s.ppu.ly.toNat))
    else (ppuClock s).ppu.fb = s.ppu.fb) ∧
  (∀ (fb : FrameBuffer) (x y x' y' : Nat) (c : Rgba), x < 160 → x' < 160 →
    (fb.write x y c).read x' y' = if x' = x ∧ y' = y then c else fb.read x' y') ∧
  ∀ cfg : Config, shadeRgba cfg 0 = ⟨255#8, 255#8, 255#8, 255#8⟩ ∧ shadeRgba cfg 1 = cfg.shade1 ∧
    shadeRgba cfg 2 = cfg.shade2 ∧ shadeRgba cfg 3 = cfg.shade3

/-- 60_exceptions.md R356, R357: the sprite selector: the first ten OAM entries whose Y-window covers the line, in ascending X, and
entries of equal X in OAM order. The offset 16 is decision D33. -/
def Obligations.SpriteSelector : Prop :=
  ∀ (mem : Memory) (h ly : Nat),
    let entry (k : Nat) : Sprite :=
      ⟨mem.read (0xFE00 + 4 * k), mem.read (0xFE00 + 4 * k + 1), mem.read (0xFE00 + 4 * k + 2), mem.read (0xFE00 + 4 * k + 3)⟩
    let chosen :=
      (((List.range 40).filter fun k => decide ((entry k).y.toNat ≤ ly + 16 ∧ ly + 16 < (entry k).y.toNat + h)).map entry).take 10
    sortedByX (scanSprites mem h ly) = true ∧ (scanSprites mem h ly).Perm chosen ∧
      ∀ x : Byte, (scanSprites mem h ly).filter (fun e => e.x = x) = chosen.filter (fun e => e.x = x)

/-- 60_exceptions.md R352, R353, R355, R358, R359, R361, R364, R365: one clock of the Pixel Unit with the LCD on is its four steps in
order: at most one pixel, the dot, the transition when the mode's dots have run out, and always, last, the comparison. Then which mode
follows, what each entry into a mode does, the scan and the STAT events among it, and the comparison: each STAT source tests its own
select bit at its own event. Decisions D28, D29, D30, D48; the penalties are log entry 8, the count at 0 dots log entry 14. -/
def Obligations.ModeEntriesAndTheMatch : Prop :=
  ∀ s : State,
    let mode (m : Nat) : Byte := (s.ppu.stat &&& 0xFC#8) ||| BitVec.ofNat 8 m
    let request (b : Bool) : Byte := if b then s.ifReg ||| 0x02#8 else s.ifReg
    let eq := decide (s.ppu.ly = s.ppu.lyc)
    let next := { s with ppu := { s.ppu with ly := s.ppu.ly + 1#8, dotsLine := 0 } }
    let draws := s.ppu.mode = .drawing ∧ 80 + s.ppu.drawDelay ≤ s.ppu.dotsLine ∧ s.ppu.px < 160
    let counted :=
      { s with ppu := { s.ppu with
          fb :=
            if draws then
              s.ppu.fb.write s.ppu.px s.ppu.ly.toNat (shadeRgba s.cfg (pixelShade s.mem s.ppu s.ppu.px s.ppu.ly.toNat))
            else s.ppu.fb
          px := if draws then s.ppu.px + 1 else s.ppu.px
          dotsRemaining := s.ppu.dotsRemaining - 1
          dotsLine := s.ppu.dotsLine + 1 } }
    (s.ppu.lcdc.getLsbD 7 = true → s.ppu.dotsRemaining ≠ 1 → s.ppu.dotsRemaining ≠ 0 → ppuClock s = lycCompare counted) ∧
    (s.ppu.lcdc.getLsbD 7 = true → s.ppu.dotsRemaining = 1 → ppuClock s = lycCompare (transition counted)) ∧
    enterOamScan s =
      { s with
        ifReg := request (s.ppu.stat.getLsbD 5)
        ppu := { s.ppu with
          mode := .oamScan, stat := mode 2, dotsRemaining := 80
          sprites := scanSprites s.mem (if s.ppu.lcdc.getLsbD 2 then 16 else 8) s.ppu.ly.toNat } } ∧
    enterDrawing s =
      { s with
        penalties := s.penalties.tail
        ppu := { s.ppu with
          mode := .drawing, stat := mode 3, px := 0, drawDelay := 12 + s.ppu.scx.toNat % 8
          dotsRemaining := 184 + s.ppu.scx.toNat % 8 + min (s.penalties.headD 0) 184 } } ∧
    enterHBlank s =
      { s with
        ifReg := request (s.ppu.stat.getLsbD 3)
        ppu := { s.ppu with mode := .hblank, stat := mode 0, dotsRemaining := 456 - s.ppu.dotsLine } } ∧
    enterVBlank s =
      { s with
        frameDone := true
        ifReg := request (s.ppu.stat.getLsbD 4) ||| 0x01#8
        ppu := { s.ppu with mode := .vblank, stat := mode 1, dotsRemaining := 456 } } ∧
    lycCompare s =
      { s with
        ifReg := request (eq && !s.ppu.lycLatch && s.ppu.stat.getLsbD 6)
        ppu := { s.ppu with
          stat := (s.ppu.stat &&& 0xFB#8) ||| (if eq then 0x04#8 else 0x00#8), lycLatch := eq } } ∧
    (s.ppu.mode = .oamScan → transition s = enterDrawing s) ∧ (s.ppu.mode = .drawing → transition s = enterHBlank s) ∧
    (s.ppu.mode = .hblank → transition s = if s.ppu.ly = 143#8 then enterVBlank next else enterOamScan next) ∧
    (s.ppu.mode = .vblank → transition s =
      if s.ppu.ly = 153#8 then enterOamScan { next with ppu := { next.ppu with ly := 0#8 } }
      else { next with ppu := { next.ppu with dotsRemaining := 456 } })

/-- 60_exceptions.md R368, R369, 20_memory.md R55: what a store to LCDC does when it turns the LCD off, on, or neither; while it is off
the unit is frozen. Decisions D27, D29. -/
def Obligations.LcdOffAndOn : Prop :=
  ∀ (s : State) (v : Byte),
    (s.ppu.lcdc.getLsbD 7 = true → v.getLsbD 7 = false →
      writeLcdc v s = { s with ppu := { s.ppu with
        lcdc := v, ly := 0#8, mode := .hblank, stat := s.ppu.stat &&& 0xFC#8, dotsRemaining := s.cfg.lcdOffDots
        dotsLine := 0, px := 0 } }) ∧
    (s.ppu.lcdc.getLsbD 7 = false → v.getLsbD 7 = true →
      writeLcdc v s =
        { s with
          ifReg := if s.ppu.stat.getLsbD 5 then s.ifReg ||| 0x02#8 else s.ifReg
          ppu := { s.ppu with
            lcdc := v, ly := 0#8, mode := .oamScan, stat := (s.ppu.stat &&& 0xFC#8) ||| 0x02#8, dotsRemaining := 80
            dotsLine := 0, px := 0, sprites := scanSprites s.mem (if v.getLsbD 2 then 16 else 8) 0 } }) ∧
    (s.ppu.lcdc.getLsbD 7 = v.getLsbD 7 → writeLcdc v s = { s with ppu := { s.ppu with lcdc := v } }) ∧
    (s.ppu.lcdc.getLsbD 7 = false → ppuClock s = s)

/-- 60_exceptions.md R370, R371, R372: the shade of a pixel: white where the background is disabled, the window inside its rectangle, the
background else; over it the first sprite of the sorted list with a non-zero index at the point, unless it yields; the tile row's two
bytes give the index, leftmost pixel in bit 7, the second byte the high bit. Decisions D32 to D35. -/
def Obligations.PixelComposition : Prop :=
  ∀ (mem : Memory) (p : Ppu) (x y : Nat),
    let lcdc := p.lcdc
    let tile (hiMap : Bool) (bx by' : Nat) : Nat :=
      let t := mem.read ((if hiMap then 0x9C00 else 0x9800) + 32 * (by' / 8) + bx / 8)
      let base : Nat := if lcdc.getLsbD 4 then 0x8000 + 16 * t.toNat
        else if t.toNat < 128 then 0x9000 + 16 * t.toNat else 0x8000 + 16 * t.toNat
      2 * ((mem.read (base + 2 * (by' % 8) + 1)).getLsbD (7 - bx % 8)).toNat +
        ((mem.read (base + 2 * (by' % 8))).getLsbD (7 - bx % 8)).toNat
    let shadeOf (pal : Byte) (i : Nat) : Nat := pal.toNat / 4 ^ i % 4
    let bgIdx :=
      if lcdc.getLsbD 0 = false then 0
      else if lcdc.getLsbD 5 = true ∧ p.wy.toNat ≤ y ∧ p.wx.toNat ≤ x + 7 then
        tile (lcdc.getLsbD 6) (x + 7 - p.wx.toNat) (y - p.wy.toNat)
      else tile (lcdc.getLsbD 3) ((x + p.scx.toNat) % 256) ((y + p.scy.toNat) % 256)
    let under := if lcdc.getLsbD 0 = false then 0 else shadeOf p.bgp bgIdx
    let h := if lcdc.getLsbD 2 then 16 else 8
    let covers (e : Sprite) : Prop :=
      e.x.toNat ≤ x + 8 ∧ x + 8 < e.x.toNat + 8 ∧ e.y.toNat ≤ y + 16 ∧ y + 16 < e.y.toNat + h
    let index (e : Sprite) : Nat :=
      let col := if e.attr.getLsbD 5 then 7 - (x + 8 - e.x.toNat) else x + 8 - e.x.toNat
      let row := if e.attr.getLsbD 6 then h - 1 - (y + 16 - e.y.toNat) else y + 16 - e.y.toNat
      let base := 0x8000 + 16 * (if h = 16 then 2 * (e.tile.toNat / 2) else e.tile.toNat) + 2 * row
      2 * ((mem.read (base + 1)).getLsbD (7 - col)).toNat + ((mem.read base).getLsbD (7 - col)).toNat
    (lcdc.getLsbD 1 = false → pixelShade mem p x y = under) ∧
    (lcdc.getLsbD 1 = true → (∀ e ∈ p.sprites, covers e → index e = 0) → pixelShade mem p x y = under) ∧
    (lcdc.getLsbD 1 = true → ∀ before e after, p.sprites = before ++ e :: after →
      (∀ b ∈ before, covers b → index b = 0) → covers e → index e ≠ 0 →
      pixelShade mem p x y =
        if e.attr.getLsbD 7 = true ∧ bgIdx ≠ 0 then under
        else shadeOf (if e.attr.getLsbD 4 then p.obp1 else p.obp0) (index e))
end

