-- ==== Sys2Proof/Laws/Sparse.lean ====
section
/-! SUPPORT. The laws of sparse storage: a read after a write, and the canonical form every write keeps. -/

namespace Sys2Proof.Laws

open Sys2Proof.Machine

variable {α : Type} (d : α)

theorem sparseRead_erase_same (m : List (Nat × α)) (k : Nat) : sparseRead d (sparseErase m k) k = d := by
  induction m with
  | nil => rfl
  | cons c rest ih =>
    obtain ⟨i, w⟩ := c
    by_cases h : i = k <;> simp [sparseErase, sparseRead, h, ih]

theorem sparseRead_erase_other (m : List (Nat × α)) {k j : Nat} (h : j ≠ k) :
    sparseRead d (sparseErase m k) j = sparseRead d m j := by
  induction m with
  | nil => rfl
  | cons c rest ih =>
    obtain ⟨i, w⟩ := c
    by_cases hk : i = k
    · simp [sparseErase, sparseRead, hk, ih, Ne.symm h]
    · simp [sparseErase, sparseRead, hk, ih]

theorem sparseRead_insert_erased (m : List (Nat × α)) (k j : Nat) (v : α) :
    sparseRead d (sparseInsert (sparseErase m k) k v) j = if j = k then v else sparseRead d (sparseErase m k) j := by
  induction m with
  | nil => simp only [sparseErase, sparseInsert, sparseRead, eq_comm]
  | cons c rest ih =>
    obtain ⟨i, w⟩ := c
    by_cases hk : i = k
    · simpa [sparseErase, hk] using ih
    · by_cases hlt : k < i
      · simp only [sparseErase, hk, sparseInsert, hlt, sparseRead, if_true, if_false, eq_comm (a := k)]
      · simp only [sparseErase, hk, sparseInsert, hlt, sparseRead, if_false, ih]
        by_cases hj : i = j
        · subst hj; simp [hk]
        · simp [hj]

variable [DecidableEq α]

/-- A write is seen at its own key and nowhere else. -/
theorem sparseRead_write (m : List (Nat × α)) (k j : Nat) (v : α) :
    sparseRead d (sparseWrite d m k v) j = if j = k then v else sparseRead d m j := by
  unfold sparseWrite
  by_cases hj : j = k
  · subst hj
    by_cases hv : v = d
    · simp [hv, sparseRead_erase_same]
    · simp [hv, sparseRead_insert_erased]
  · by_cases hv : v = d
    · simp [hv, hj, sparseRead_erase_other d m hj]
    · simp [hv, hj, sparseRead_insert_erased, sparseRead_erase_other d m hj]

theorem sparseWfFrom_mono {m : List (Nat × α)} {lo lo' : Nat} (h : lo' ≤ lo) (hm : sparseWfFrom d lo m = true) :
    sparseWfFrom d lo' m = true := by
  cases m with
  | nil => rfl
  | cons c rest =>
    simp only [sparseWfFrom, Bool.and_eq_true, decide_eq_true_eq] at hm ⊢
    exact ⟨⟨by omega, hm.1.2⟩, hm.2⟩

theorem sparseWfFrom_erase (m : List (Nat × α)) (k lo : Nat) (hm : sparseWfFrom d lo m = true) :
    sparseWfFrom d lo (sparseErase m k) = true := by
  induction m generalizing lo with
  | nil => rfl
  | cons c rest ih =>
    obtain ⟨i, w⟩ := c
    simp only [sparseWfFrom, Bool.and_eq_true, decide_eq_true_eq] at hm
    by_cases hk : i = k
    · simpa [sparseErase, hk] using sparseWfFrom_mono d (by omega) (ih _ hm.2)
    · simp only [sparseErase, hk, if_false, sparseWfFrom, Bool.and_eq_true, decide_eq_true_eq]
      exact ⟨hm.1, ih _ hm.2⟩

theorem sparseWfFrom_insert_erased (m : List (Nat × α)) (k lo : Nat) (v : α) (hv : v ≠ d) (hlo : lo ≤ k)
    (hm : sparseWfFrom d lo m = true) : sparseWfFrom d lo (sparseInsert (sparseErase m k) k v) = true := by
  induction m generalizing lo with
  | nil => simp [sparseErase, sparseInsert, sparseWfFrom, hv, hlo]
  | cons c rest ih =>
    obtain ⟨i, w⟩ := c
    simp only [sparseWfFrom, Bool.and_eq_true, decide_eq_true_eq] at hm
    by_cases hk : i = k
    · simpa [sparseErase, hk] using ih lo hlo (sparseWfFrom_mono d (by omega) hm.2)
    · simp only [sparseErase, hk, if_false, sparseInsert]
      by_cases hlt : k < i
      · simp only [hlt, if_true, sparseWfFrom, Bool.and_eq_true, decide_eq_true_eq]
        exact ⟨⟨hlo, hv⟩, ⟨by omega, hm.1.2⟩, sparseWfFrom_erase d rest k _ hm.2⟩
      · simp only [hlt, if_false, sparseWfFrom, Bool.and_eq_true, decide_eq_true_eq]
        exact ⟨hm.1, ih _ (by omega) hm.2⟩

/-- Every write keeps the canonical form. -/
theorem sparseWfFrom_write (m : List (Nat × α)) (k : Nat) (v : α) (hm : sparseWfFrom d 0 m = true) :
    sparseWfFrom d 0 (sparseWrite d m k v) = true := by
  unfold sparseWrite
  split
  · exact sparseWfFrom_erase d m k 0 hm
  · rename_i hv
    exact sparseWfFrom_insert_erased d m k 0 v hv (Nat.zero_le k) hm

omit [DecidableEq α] in
theorem mem_sparseErase {m : List (Nat × α)} {k : Nat} {c : Nat × α} (h : c ∈ sparseErase m k) : c ∈ m := by
  induction m with
  | nil => simp [sparseErase] at h
  | cons x rest ih =>
    obtain ⟨i, w⟩ := x
    by_cases hk : i = k
    · simp only [sparseErase, hk, if_true] at h
      exact List.mem_cons_of_mem _ (ih h)
    · simp only [sparseErase, hk, if_false, List.mem_cons] at h
      exact h.elim (fun e => by simp [e]) (fun e => List.mem_cons_of_mem _ (ih e))

omit [DecidableEq α] in
theorem mem_sparseInsert {m : List (Nat × α)} {k : Nat} {v : α} {c : Nat × α} (h : c ∈ sparseInsert m k v) :
    c = (k, v) ∨ c ∈ m := by
  induction m with
  | nil => simpa [sparseInsert] using h
  | cons x rest ih =>
    obtain ⟨i, w⟩ := x
    by_cases hk : k < i
    · simpa [sparseInsert, hk] using h
    · simp only [sparseInsert, hk, if_false, List.mem_cons] at h ⊢
      rcases h with h | h
      · exact .inr (.inl h)
      · exact (ih h).imp id .inr

/-- A write adds no key but its own. -/
theorem mem_sparseWrite {m : List (Nat × α)} {k : Nat} {v : α} {c : Nat × α} (h : c ∈ sparseWrite d m k v) :
    c.1 = k ∨ c ∈ m := by
  unfold sparseWrite at h
  split at h
  · exact .inr (mem_sparseErase h)
  · exact (mem_sparseInsert h).imp (fun e => by rw [e]) mem_sparseErase

/-- A byte read after a byte write. -/
@[simp] theorem memory_read_write (m : Memory) (k j : Nat) (v : Byte) :
    (m.write k v).read j = if j = k then v else m.read j := sparseRead_write unwritten m k j v

/-- Every byte write below 65,536 keeps memory's canonical form. -/
theorem memory_wf_write (m : Memory) (k : Nat) (v : Byte) (hk : k < 65536) (hm : m.wf = true) :
    (m.write k v).wf = true := by
  simp only [Memory.wf, Bool.and_eq_true, List.all_eq_true, decide_eq_true_eq] at hm ⊢
  refine ⟨sparseWfFrom_write unwritten m k v hm.1, fun c hc => ?_⟩
  rcases mem_sparseWrite unwritten hc with h | h
  · rw [h]; exact hk
  · exact hm.2 c h

/-- A pixel read after a pixel write. -/
theorem frameBuffer_read_write (m : FrameBuffer) (x y x' y' : Nat) (p : Rgba) :
    (m.write x y p).read x' y' = if 160 * y' + x' = 160 * y + x then p else m.read x' y' :=
  sparseRead_write unpainted m _ _ p

/-- Every pixel write inside the 160 × 144 frame keeps the frame buffer's canonical form. -/
theorem frameBuffer_wf_write (m : FrameBuffer) {x y : Nat} (p : Rgba) (hx : x < 160) (hy : y < 144) (hm : m.wf = true) :
    (m.write x y p).wf = true := by
  simp only [FrameBuffer.wf, Bool.and_eq_true, List.all_eq_true, decide_eq_true_eq] at hm ⊢
  refine ⟨sparseWfFrom_write unpainted m _ p hm.1, fun c hc => ?_⟩
  rcases mem_sparseWrite unpainted hc with h | h
  · omega
  · exact hm.2 c h

theorem memory_wf_nil : Memory.wf [] = true := rfl

end Sys2Proof.Laws
end

