-- ==== Sys2Proof/Laws/State.lean ====
section
/-! SUPPORT. One lemma per field per update of the state, and the small laws of register operands and of the flag byte, so that no
proof unfolds a record update. -/

namespace Sys2Proof.Laws

open Sys2Proof.Machine

/-! ### The updates that every meaning is made of -/

@[simp] theorem onCpu_cpu (g : Cpu → Cpu) (s : State) : (onCpu g s).cpu = g s.cpu := rfl
@[simp] theorem onCpu_mem (g : Cpu → Cpu) (s : State) : (onCpu g s).mem = s.mem := rfl
@[simp] theorem onCpu_ifReg (g : Cpu → Cpu) (s : State) : (onCpu g s).ifReg = s.ifReg := rfl
@[simp] theorem onCpu_ieReg (g : Cpu → Cpu) (s : State) : (onCpu g s).ieReg = s.ieReg := rfl
@[simp] theorem onCpu_timer (g : Cpu → Cpu) (s : State) : (onCpu g s).timer = s.timer := rfl
@[simp] theorem onCpu_dma (g : Cpu → Cpu) (s : State) : (onCpu g s).dma = s.dma := rfl
@[simp] theorem onCpu_ppu (g : Cpu → Cpu) (s : State) : (onCpu g s).ppu = s.ppu := rfl
@[simp] theorem onCpu_cart (g : Cpu → Cpu) (s : State) : (onCpu g s).cart = s.cart := rfl
@[simp] theorem onCpu_audio (g : Cpu → Cpu) (s : State) : (onCpu g s).audio = s.audio := rfl
@[simp] theorem onCpu_host (g : Cpu → Cpu) (s : State) : (onCpu g s).host = s.host := rfl
@[simp] theorem onCpu_penalties (g : Cpu → Cpu) (s : State) : (onCpu g s).penalties = s.penalties := rfl
@[simp] theorem onCpu_frameDone (g : Cpu → Cpu) (s : State) : (onCpu g s).frameDone = s.frameDone := rfl
@[simp] theorem onCpu_tick (g : Cpu → Cpu) (s : State) : (onCpu g s).tick = s.tick := rfl
@[simp] theorem onCpu_cfg (g : Cpu → Cpu) (s : State) : (onCpu g s).cfg = s.cfg := rfl

@[simp] theorem spend_cpu (n : Nat) (s : State) : (spend n s).cpu = { s.cpu with busy := n - 1 } := rfl
@[simp] theorem spend_mem (n : Nat) (s : State) : (spend n s).mem = s.mem := rfl
@[simp] theorem spend_ifReg (n : Nat) (s : State) : (spend n s).ifReg = s.ifReg := rfl
@[simp] theorem spend_ieReg (n : Nat) (s : State) : (spend n s).ieReg = s.ieReg := rfl
@[simp] theorem spend_timer (n : Nat) (s : State) : (spend n s).timer = s.timer := rfl
@[simp] theorem spend_dma (n : Nat) (s : State) : (spend n s).dma = s.dma := rfl
@[simp] theorem spend_ppu (n : Nat) (s : State) : (spend n s).ppu = s.ppu := rfl
@[simp] theorem spend_cart (n : Nat) (s : State) : (spend n s).cart = s.cart := rfl
@[simp] theorem spend_audio (n : Nat) (s : State) : (spend n s).audio = s.audio := rfl
@[simp] theorem spend_host (n : Nat) (s : State) : (spend n s).host = s.host := rfl
@[simp] theorem spend_penalties (n : Nat) (s : State) : (spend n s).penalties = s.penalties := rfl
@[simp] theorem spend_frameDone (n : Nat) (s : State) : (spend n s).frameDone = s.frameDone := rfl
@[simp] theorem spend_tick (n : Nat) (s : State) : (spend n s).tick = s.tick := rfl
@[simp] theorem spend_cfg (n : Nat) (s : State) : (spend n s).cfg = s.cfg := rfl

@[simp] theorem advancePhase_cpu (s : State) : (advancePhase s).cpu = { s.cpu with phase := s.cpu.phase + 1 } := rfl
@[simp] theorem advancePhase_mem (s : State) : (advancePhase s).mem = s.mem := rfl
@[simp] theorem advancePhase_ifReg (s : State) : (advancePhase s).ifReg = s.ifReg := rfl
@[simp] theorem advancePhase_ieReg (s : State) : (advancePhase s).ieReg = s.ieReg := rfl
@[simp] theorem advancePhase_timer (s : State) : (advancePhase s).timer = s.timer := rfl
@[simp] theorem advancePhase_dma (s : State) : (advancePhase s).dma = s.dma := rfl
@[simp] theorem advancePhase_ppu (s : State) : (advancePhase s).ppu = s.ppu := rfl
@[simp] theorem advancePhase_cart (s : State) : (advancePhase s).cart = s.cart := rfl
@[simp] theorem advancePhase_audio (s : State) : (advancePhase s).audio = s.audio := rfl
@[simp] theorem advancePhase_host (s : State) : (advancePhase s).host = s.host := rfl
@[simp] theorem advancePhase_penalties (s : State) : (advancePhase s).penalties = s.penalties := rfl
@[simp] theorem advancePhase_frameDone (s : State) : (advancePhase s).frameDone = s.frameDone := rfl
@[simp] theorem advancePhase_tick (s : State) : (advancePhase s).tick = s.tick := rfl
@[simp] theorem advancePhase_cfg (s : State) : (advancePhase s).cfg = s.cfg := rfl

@[simp] theorem requestIrq_cpu (i : Nat) (s : State) : (requestIrq i s).cpu = s.cpu := rfl
@[simp] theorem requestIrq_mem (i : Nat) (s : State) : (requestIrq i s).mem = s.mem := rfl
@[simp] theorem requestIrq_ifReg (i : Nat) (s : State) : (requestIrq i s).ifReg = setBit s.ifReg i := rfl
@[simp] theorem requestIrq_ieReg (i : Nat) (s : State) : (requestIrq i s).ieReg = s.ieReg := rfl
@[simp] theorem requestIrq_timer (i : Nat) (s : State) : (requestIrq i s).timer = s.timer := rfl
@[simp] theorem requestIrq_dma (i : Nat) (s : State) : (requestIrq i s).dma = s.dma := rfl
@[simp] theorem requestIrq_ppu (i : Nat) (s : State) : (requestIrq i s).ppu = s.ppu := rfl
@[simp] theorem requestIrq_cart (i : Nat) (s : State) : (requestIrq i s).cart = s.cart := rfl
@[simp] theorem requestIrq_audio (i : Nat) (s : State) : (requestIrq i s).audio = s.audio := rfl
@[simp] theorem requestIrq_host (i : Nat) (s : State) : (requestIrq i s).host = s.host := rfl
@[simp] theorem requestIrq_penalties (i : Nat) (s : State) : (requestIrq i s).penalties = s.penalties := rfl
@[simp] theorem requestIrq_frameDone (i : Nat) (s : State) : (requestIrq i s).frameDone = s.frameDone := rfl
@[simp] theorem requestIrq_tick (i : Nat) (s : State) : (requestIrq i s).tick = s.tick := rfl
@[simp] theorem requestIrq_cfg (i : Nat) (s : State) : (requestIrq i s).cfg = s.cfg := rfl

@[simp] theorem startDma_cpu (v : Byte) (s : State) : (startDma v s).cpu = s.cpu := rfl
@[simp] theorem startDma_mem (v : Byte) (s : State) : (startDma v s).mem = s.mem := rfl
@[simp] theorem startDma_ifReg (v : Byte) (s : State) : (startDma v s).ifReg = s.ifReg := rfl
@[simp] theorem startDma_ieReg (v : Byte) (s : State) : (startDma v s).ieReg = s.ieReg := rfl
@[simp] theorem startDma_timer (v : Byte) (s : State) : (startDma v s).timer = s.timer := rfl
@[simp] theorem startDma_dma (v : Byte) (s : State) : (startDma v s).dma = { source := v, inProgress := true, remaining := s.cfg.dmaTicks } := rfl
@[simp] theorem startDma_ppu (v : Byte) (s : State) : (startDma v s).ppu = s.ppu := rfl
@[simp] theorem startDma_cart (v : Byte) (s : State) : (startDma v s).cart = s.cart := rfl
@[simp] theorem startDma_audio (v : Byte) (s : State) : (startDma v s).audio = s.audio := rfl
@[simp] theorem startDma_host (v : Byte) (s : State) : (startDma v s).host = s.host := rfl
@[simp] theorem startDma_penalties (v : Byte) (s : State) : (startDma v s).penalties = s.penalties := rfl
@[simp] theorem startDma_frameDone (v : Byte) (s : State) : (startDma v s).frameDone = s.frameDone := rfl
@[simp] theorem startDma_tick (v : Byte) (s : State) : (startDma v s).tick = s.tick := rfl
@[simp] theorem startDma_cfg (v : Byte) (s : State) : (startDma v s).cfg = s.cfg := rfl

@[simp] theorem dmaCount_cpu (s : State) : (dmaCount s).cpu = s.cpu := rfl
@[simp] theorem dmaCount_mem (s : State) : (dmaCount s).mem = s.mem := rfl
@[simp] theorem dmaCount_ifReg (s : State) : (dmaCount s).ifReg = s.ifReg := rfl
@[simp] theorem dmaCount_ieReg (s : State) : (dmaCount s).ieReg = s.ieReg := rfl
@[simp] theorem dmaCount_timer (s : State) : (dmaCount s).timer = s.timer := rfl
@[simp] theorem dmaCount_dma (s : State) : (dmaCount s).dma = { s.dma with remaining := s.dma.remaining - 1, inProgress := decide (s.dma.remaining - 1 ≠ 0) } := rfl
@[simp] theorem dmaCount_ppu (s : State) : (dmaCount s).ppu = s.ppu := rfl
@[simp] theorem dmaCount_cart (s : State) : (dmaCount s).cart = s.cart := rfl
@[simp] theorem dmaCount_audio (s : State) : (dmaCount s).audio = s.audio := rfl
@[simp] theorem dmaCount_host (s : State) : (dmaCount s).host = s.host := rfl
@[simp] theorem dmaCount_penalties (s : State) : (dmaCount s).penalties = s.penalties := rfl
@[simp] theorem dmaCount_frameDone (s : State) : (dmaCount s).frameDone = s.frameDone := rfl
@[simp] theorem dmaCount_tick (s : State) : (dmaCount s).tick = s.tick := rfl
@[simp] theorem dmaCount_cfg (s : State) : (dmaCount s).cfg = s.cfg := rfl

@[simp] theorem setMode_cpu (m : PpuMode) (s : State) : (setMode m s).cpu = s.cpu := rfl
@[simp] theorem setMode_mem (m : PpuMode) (s : State) : (setMode m s).mem = s.mem := rfl
@[simp] theorem setMode_ifReg (m : PpuMode) (s : State) : (setMode m s).ifReg = s.ifReg := rfl
@[simp] theorem setMode_ieReg (m : PpuMode) (s : State) : (setMode m s).ieReg = s.ieReg := rfl
@[simp] theorem setMode_timer (m : PpuMode) (s : State) : (setMode m s).timer = s.timer := rfl
@[simp] theorem setMode_dma (m : PpuMode) (s : State) : (setMode m s).dma = s.dma := rfl
@[simp] theorem setMode_ppu (m : PpuMode) (s : State) : (setMode m s).ppu = { s.ppu with mode := m, stat := (s.ppu.stat &&& 0xFC#8) ||| BitVec.ofNat 8 m.code } := rfl
@[simp] theorem setMode_cart (m : PpuMode) (s : State) : (setMode m s).cart = s.cart := rfl
@[simp] theorem setMode_audio (m : PpuMode) (s : State) : (setMode m s).audio = s.audio := rfl
@[simp] theorem setMode_host (m : PpuMode) (s : State) : (setMode m s).host = s.host := rfl
@[simp] theorem setMode_penalties (m : PpuMode) (s : State) : (setMode m s).penalties = s.penalties := rfl
@[simp] theorem setMode_frameDone (m : PpuMode) (s : State) : (setMode m s).frameDone = s.frameDone := rfl
@[simp] theorem setMode_tick (m : PpuMode) (s : State) : (setMode m s).tick = s.tick := rfl
@[simp] theorem setMode_cfg (m : PpuMode) (s : State) : (setMode m s).cfg = s.cfg := rfl

@[simp] theorem emitPixel_cpu (x y : Nat) (s : State) : (emitPixel x y s).cpu = s.cpu := rfl
@[simp] theorem emitPixel_mem (x y : Nat) (s : State) : (emitPixel x y s).mem = s.mem := rfl
@[simp] theorem emitPixel_ifReg (x y : Nat) (s : State) : (emitPixel x y s).ifReg = s.ifReg := rfl
@[simp] theorem emitPixel_ieReg (x y : Nat) (s : State) : (emitPixel x y s).ieReg = s.ieReg := rfl
@[simp] theorem emitPixel_timer (x y : Nat) (s : State) : (emitPixel x y s).timer = s.timer := rfl
@[simp] theorem emitPixel_dma (x y : Nat) (s : State) : (emitPixel x y s).dma = s.dma := rfl
@[simp] theorem emitPixel_cart (x y : Nat) (s : State) : (emitPixel x y s).cart = s.cart := rfl
@[simp] theorem emitPixel_audio (x y : Nat) (s : State) : (emitPixel x y s).audio = s.audio := rfl
@[simp] theorem emitPixel_host (x y : Nat) (s : State) : (emitPixel x y s).host = s.host := rfl
@[simp] theorem emitPixel_penalties (x y : Nat) (s : State) : (emitPixel x y s).penalties = s.penalties := rfl
@[simp] theorem emitPixel_frameDone (x y : Nat) (s : State) : (emitPixel x y s).frameDone = s.frameDone := rfl
@[simp] theorem emitPixel_tick (x y : Nat) (s : State) : (emitPixel x y s).tick = s.tick := rfl
@[simp] theorem emitPixel_cfg (x y : Nat) (s : State) : (emitPixel x y s).cfg = s.cfg := rfl

@[simp] theorem countDot_cpu (s : State) : (countDot s).cpu = s.cpu := rfl
@[simp] theorem countDot_mem (s : State) : (countDot s).mem = s.mem := rfl
@[simp] theorem countDot_ifReg (s : State) : (countDot s).ifReg = s.ifReg := rfl
@[simp] theorem countDot_ieReg (s : State) : (countDot s).ieReg = s.ieReg := rfl
@[simp] theorem countDot_timer (s : State) : (countDot s).timer = s.timer := rfl
@[simp] theorem countDot_dma (s : State) : (countDot s).dma = s.dma := rfl
@[simp] theorem countDot_ppu (s : State) : (countDot s).ppu = { s.ppu with dotsRemaining := s.ppu.dotsRemaining - 1, dotsLine := s.ppu.dotsLine + 1 } := rfl
@[simp] theorem countDot_cart (s : State) : (countDot s).cart = s.cart := rfl
@[simp] theorem countDot_audio (s : State) : (countDot s).audio = s.audio := rfl
@[simp] theorem countDot_host (s : State) : (countDot s).host = s.host := rfl
@[simp] theorem countDot_penalties (s : State) : (countDot s).penalties = s.penalties := rfl
@[simp] theorem countDot_frameDone (s : State) : (countDot s).frameDone = s.frameDone := rfl
@[simp] theorem countDot_tick (s : State) : (countDot s).tick = s.tick := rfl
@[simp] theorem countDot_cfg (s : State) : (countDot s).cfg = s.cfg := rfl

@[simp] theorem nextLine_cpu (s : State) : (nextLine s).cpu = s.cpu := rfl
@[simp] theorem nextLine_mem (s : State) : (nextLine s).mem = s.mem := rfl
@[simp] theorem nextLine_ifReg (s : State) : (nextLine s).ifReg = s.ifReg := rfl
@[simp] theorem nextLine_ieReg (s : State) : (nextLine s).ieReg = s.ieReg := rfl
@[simp] theorem nextLine_timer (s : State) : (nextLine s).timer = s.timer := rfl
@[simp] theorem nextLine_dma (s : State) : (nextLine s).dma = s.dma := rfl
@[simp] theorem nextLine_ppu (s : State) : (nextLine s).ppu = { s.ppu with ly := s.ppu.ly + 1#8, dotsLine := 0 } := rfl
@[simp] theorem nextLine_cart (s : State) : (nextLine s).cart = s.cart := rfl
@[simp] theorem nextLine_audio (s : State) : (nextLine s).audio = s.audio := rfl
@[simp] theorem nextLine_host (s : State) : (nextLine s).host = s.host := rfl
@[simp] theorem nextLine_penalties (s : State) : (nextLine s).penalties = s.penalties := rfl
@[simp] theorem nextLine_frameDone (s : State) : (nextLine s).frameDone = s.frameDone := rfl
@[simp] theorem nextLine_tick (s : State) : (nextLine s).tick = s.tick := rfl
@[simp] theorem nextLine_cfg (s : State) : (nextLine s).cfg = s.cfg := rfl

theorem onCpu_onCpu (g g' : Cpu → Cpu) (s : State) : onCpu g (onCpu g' s) = onCpu (fun c => g (g' c)) s := rfl

theorem onCpu_id (s : State) : onCpu (fun c => c) s = s := rfl

/-! ### The Processor's updates -/

@[simp] theorem setFlags_a (k : Cpu) (z n h c : Bool) : (k.setFlags z n h c).a = k.a := rfl
@[simp] theorem setFlags_f (k : Cpu) (z n h c : Bool) : (k.setFlags z n h c).f = packFlags z n h c := rfl
@[simp] theorem setFlags_b (k : Cpu) (z n h c : Bool) : (k.setFlags z n h c).b = k.b := rfl
@[simp] theorem setFlags_c (k : Cpu) (z n h c : Bool) : (k.setFlags z n h c).c = k.c := rfl
@[simp] theorem setFlags_d (k : Cpu) (z n h c : Bool) : (k.setFlags z n h c).d = k.d := rfl
@[simp] theorem setFlags_e (k : Cpu) (z n h c : Bool) : (k.setFlags z n h c).e = k.e := rfl
@[simp] theorem setFlags_h (k : Cpu) (z n h c : Bool) : (k.setFlags z n h c).h = k.h := rfl
@[simp] theorem setFlags_l (k : Cpu) (z n h c : Bool) : (k.setFlags z n h c).l = k.l := rfl
@[simp] theorem setFlags_sp (k : Cpu) (z n h c : Bool) : (k.setFlags z n h c).sp = k.sp := rfl
@[simp] theorem setFlags_pc (k : Cpu) (z n h c : Bool) : (k.setFlags z n h c).pc = k.pc := rfl
@[simp] theorem setFlags_ime (k : Cpu) (z n h c : Bool) : (k.setFlags z n h c).ime = k.ime := rfl
@[simp] theorem setFlags_halted (k : Cpu) (z n h c : Bool) : (k.setFlags z n h c).halted = k.halted := rfl
@[simp] theorem setFlags_imeSched (k : Cpu) (z n h c : Bool) : (k.setFlags z n h c).imeSched = k.imeSched := rfl
@[simp] theorem setFlags_haltBug (k : Cpu) (z n h c : Bool) : (k.setFlags z n h c).haltBug = k.haltBug := rfl
@[simp] theorem setFlags_busy (k : Cpu) (z n h c : Bool) : (k.setFlags z n h c).busy = k.busy := rfl
@[simp] theorem setFlags_phase (k : Cpu) (z n h c : Bool) : (k.setFlags z n h c).phase = k.phase := rfl

@[simp] theorem dropTop_a (k : Cpu) : (dropTop k).a = k.a := rfl
@[simp] theorem dropTop_f (k : Cpu) : (dropTop k).f = k.f := rfl
@[simp] theorem dropTop_b (k : Cpu) : (dropTop k).b = k.b := rfl
@[simp] theorem dropTop_c (k : Cpu) : (dropTop k).c = k.c := rfl
@[simp] theorem dropTop_d (k : Cpu) : (dropTop k).d = k.d := rfl
@[simp] theorem dropTop_e (k : Cpu) : (dropTop k).e = k.e := rfl
@[simp] theorem dropTop_h (k : Cpu) : (dropTop k).h = k.h := rfl
@[simp] theorem dropTop_l (k : Cpu) : (dropTop k).l = k.l := rfl
@[simp] theorem dropTop_sp (k : Cpu) : (dropTop k).sp = k.sp + 2#16 := rfl
@[simp] theorem dropTop_pc (k : Cpu) : (dropTop k).pc = k.pc := rfl
@[simp] theorem dropTop_ime (k : Cpu) : (dropTop k).ime = k.ime := rfl
@[simp] theorem dropTop_halted (k : Cpu) : (dropTop k).halted = k.halted := rfl
@[simp] theorem dropTop_imeSched (k : Cpu) : (dropTop k).imeSched = k.imeSched := rfl
@[simp] theorem dropTop_haltBug (k : Cpu) : (dropTop k).haltBug = k.haltBug := rfl
@[simp] theorem dropTop_busy (k : Cpu) : (dropTop k).busy = k.busy := rfl
@[simp] theorem dropTop_phase (k : Cpu) : (dropTop k).phase = k.phase := rfl

@[simp] theorem setReg_f (k : Cpu) (r : Reg8) (v : Byte) : (k.setReg r v).f = k.f := by cases r <;> rfl
@[simp] theorem setReg_sp (k : Cpu) (r : Reg8) (v : Byte) : (k.setReg r v).sp = k.sp := by cases r <;> rfl
@[simp] theorem setReg_pc (k : Cpu) (r : Reg8) (v : Byte) : (k.setReg r v).pc = k.pc := by cases r <;> rfl
@[simp] theorem setReg_ime (k : Cpu) (r : Reg8) (v : Byte) : (k.setReg r v).ime = k.ime := by cases r <;> rfl
@[simp] theorem setReg_halted (k : Cpu) (r : Reg8) (v : Byte) : (k.setReg r v).halted = k.halted := by cases r <;> rfl
@[simp] theorem setReg_imeSched (k : Cpu) (r : Reg8) (v : Byte) : (k.setReg r v).imeSched = k.imeSched := by cases r <;> rfl
@[simp] theorem setReg_haltBug (k : Cpu) (r : Reg8) (v : Byte) : (k.setReg r v).haltBug = k.haltBug := by cases r <;> rfl
@[simp] theorem setReg_busy (k : Cpu) (r : Reg8) (v : Byte) : (k.setReg r v).busy = k.busy := by cases r <;> rfl
@[simp] theorem setReg_phase (k : Cpu) (r : Reg8) (v : Byte) : (k.setReg r v).phase = k.phase := by cases r <;> rfl

/-- A register read after a register write. -/
@[simp] theorem reg_setReg (k : Cpu) (r q : Reg8) (v : Byte) : (k.setReg r v).reg q = if q = r then v else k.reg q := by
  cases r <;> cases q <;> rfl

/-! ### Bytes of words (00_scope.md R6) -/

@[simp] theorem hiByte_join (h l : Byte) : hiByte (join h l) = h := by
  apply BitVec.eq_of_toNat_eq
  simp only [hiByte, join, BitVec.toNat_ofNat]
  omega

@[simp] theorem loByte_join (h l : Byte) : loByte (join h l) = l := by
  apply BitVec.eq_of_toNat_eq
  simp only [loByte, join, BitVec.toNat_ofNat]
  omega

@[simp] theorem join_hiByte_loByte (w : Word) : join (hiByte w) (loByte w) = w := by
  apply BitVec.eq_of_toNat_eq
  simp only [hiByte, loByte, join, BitVec.toNat_ofNat]
  omega

@[simp] theorem hl_setHl (k : Cpu) (w : Word) : (k.setHl w).hl = w := join_hiByte_loByte w

@[simp] theorem bc_setBc (k : Cpu) (w : Word) : (k.setBc w).bc = w := join_hiByte_loByte w

@[simp] theorem de_setDe (k : Cpu) (w : Word) : (k.setDe w).de = w := join_hiByte_loByte w

/-- A pair read after a pair write. -/
@[simp] theorem reg16_setReg16 (k : Cpu) (r : Reg16) (w : Word) : (k.setReg16 r w).reg16 r = w := by
  cases r <;> simp [Cpu.reg16, Cpu.setReg16]

/-! ### The flag byte (10_state.md R12) -/

@[simp] theorem fZ_packFlags (k : Cpu) (z n h c : Bool) : (Cpu.fZ { k with f := packFlags z n h c }) = z := by
  show bit (packFlags z n h c) 7 = z
  revert z n h c
  decide

@[simp] theorem fN_packFlags (k : Cpu) (z n h c : Bool) : (Cpu.fN { k with f := packFlags z n h c }) = n := by
  show bit (packFlags z n h c) 6 = n
  revert z n h c
  decide

@[simp] theorem fH_packFlags (k : Cpu) (z n h c : Bool) : (Cpu.fH { k with f := packFlags z n h c }) = h := by
  show bit (packFlags z n h c) 5 = h
  revert z n h c
  decide

@[simp] theorem fC_packFlags (k : Cpu) (z n h c : Bool) : (Cpu.fC { k with f := packFlags z n h c }) = c := by
  show bit (packFlags z n h c) 4 = c
  revert z n h c
  decide

/-- F[3:0] = 0 in every flag byte the machine makes. -/
@[simp] theorem packFlags_low (z n h c : Bool) : packFlags z n h c &&& 0x0F#8 = 0#8 := by
  revert z n h c
  decide

/-- F[3:0] = 0 in what POP AF loads (42_load16_stack.md R175). -/
@[simp] theorem masked_low (v : Byte) : (v &&& 0xF0#8) &&& 0x0F#8 = 0#8 := by
  rw [BitVec.and_assoc]; simp

/-! ### Signed displacements -/

/-- Adding `sext_16` of a byte mod 2^16 is adding the byte's signed value (00_scope.md R6). -/
theorem add_sext16 (w : Word) (e : Byte) : w + sext16 e = BitVec.ofInt 16 ((w.toNat : Int) + e.toInt) := by
  apply BitVec.eq_of_toNat_eq
  have := e.isLt
  simp only [BitVec.toNat_ofInt, BitVec.toNat_add, sext16, BitVec.toInt_eq_toNat_cond, BitVec.toNat_ofNat]
  split <;> split <;> omega

end Sys2Proof.Laws
end

