-- ==== Sys2Proof/Laws/Bus.lean ====
section
/-! SUPPORT. What the bus operations can do: what a write leaves alone, what a read depends on, and that a change of the Processor's
registers commutes with them. -/

namespace Sys2Proof.Laws

open Sys2Proof.Machine

/-! ### The Pixel Unit's side of a store to LCDC -/

/-- A STAT event changes IF at most. -/
theorem statEvent_eq (k : Nat) (s : State) : statEvent k s = { s with ifReg := (statEvent k s).ifReg } := by
  unfold statEvent; split <;> rfl

/-- A STAT event, in one record (60_exceptions.md R364). -/
theorem statEvent_if (k : Nat) (s : State) :
    statEvent k s = { s with ifReg := if bit s.ppu.stat k then setBit s.ifReg irqStat else s.ifReg } := by
  unfold statEvent; split <;> rfl

@[simp] theorem statEvent_ppu (k : Nat) (s : State) : (statEvent k s).ppu = s.ppu := by rw [statEvent_eq]

theorem enterOamScan_eq (s : State) :
    enterOamScan s = { s with ifReg := (enterOamScan s).ifReg, ppu := (enterOamScan s).ppu } := by
  unfold enterOamScan; dsimp only; rw [statEvent_eq]; rfl

/-- A store to LCDC changes IF and the Pixel Unit at most. -/
theorem writeLcdc_eq (v : Byte) (s : State) :
    writeLcdc v s = { s with ifReg := (writeLcdc v s).ifReg, ppu := (writeLcdc v s).ppu } := by
  unfold writeLcdc
  dsimp only
  split
  · rfl
  · split
    · unfold lcdOn; rw [enterOamScan_eq]
    · rfl

/-! ### What a write leaves alone -/

/-- A write changes stored bytes and the units behind the bus, nothing else. -/
theorem rawWrite_eq (a : Word) (v : Byte) (s : State) :
    rawWrite a v s =
      { s with
        mem := (rawWrite a v s).mem, ifReg := (rawWrite a v s).ifReg, ieReg := (rawWrite a v s).ieReg
        timer := (rawWrite a v s).timer, dma := (rawWrite a v s).dma, ppu := (rawWrite a v s).ppu
        cart := (rawWrite a v s).cart, audio := (rawWrite a v s).audio } := by
  unfold rawWrite
  split <;> try rfl
  · unfold audioWrite; split <;> rfl
  · rw [writeLcdc_eq]

@[simp] theorem rawWrite_cpu (a : Word) (v : Byte) (s : State) : (rawWrite a v s).cpu = s.cpu := by rw [rawWrite_eq]
@[simp] theorem rawWrite_host (a : Word) (v : Byte) (s : State) : (rawWrite a v s).host = s.host := by rw [rawWrite_eq]
@[simp] theorem rawWrite_penalties (a : Word) (v : Byte) (s : State) : (rawWrite a v s).penalties = s.penalties := by
  rw [rawWrite_eq]
@[simp] theorem rawWrite_frameDone (a : Word) (v : Byte) (s : State) : (rawWrite a v s).frameDone = s.frameDone := by
  rw [rawWrite_eq]
@[simp] theorem rawWrite_tick (a : Word) (v : Byte) (s : State) : (rawWrite a v s).tick = s.tick := by rw [rawWrite_eq]
@[simp] theorem rawWrite_cfg (a : Word) (v : Byte) (s : State) : (rawWrite a v s).cfg = s.cfg := by rw [rawWrite_eq]

/-- A Processor store either is discarded by the DMA block or is a write through the decode. -/
theorem wr8_cases (a : Word) (v : Byte) (s : State) :
    (dmaBlocks s a = true ∧ wr8 a v s = s) ∨ (dmaBlocks s a = false ∧ wr8 a v s = rawWrite a v s) := by
  unfold wr8; cases h : dmaBlocks s a <;> simp

@[simp] theorem wr8_cpu (a : Word) (v : Byte) (s : State) : (wr8 a v s).cpu = s.cpu := by unfold wr8; split <;> simp
@[simp] theorem wr8_host (a : Word) (v : Byte) (s : State) : (wr8 a v s).host = s.host := by unfold wr8; split <;> simp
@[simp] theorem wr8_penalties (a : Word) (v : Byte) (s : State) : (wr8 a v s).penalties = s.penalties := by
  unfold wr8; split <;> simp
@[simp] theorem wr8_frameDone (a : Word) (v : Byte) (s : State) : (wr8 a v s).frameDone = s.frameDone := by
  unfold wr8; split <;> simp
@[simp] theorem wr8_tick (a : Word) (v : Byte) (s : State) : (wr8 a v s).tick = s.tick := by unfold wr8; split <;> simp
@[simp] theorem wr8_cfg (a : Word) (v : Byte) (s : State) : (wr8 a v s).cfg = s.cfg := by unfold wr8; split <;> simp

/-! ### The Processor's registers and the bus do not touch -/

@[simp] theorem rawRead_onCpu (g : Cpu → Cpu) (s : State) (a : Word) : rawRead (onCpu g s) a = rawRead s a := rfl

@[simp] theorem rawRead_spend (n : Nat) (s : State) (a : Word) : rawRead (spend n s) a = rawRead s a := rfl

@[simp] theorem dmaBlocks_onCpu (g : Cpu → Cpu) (s : State) (a : Word) : dmaBlocks (onCpu g s) a = dmaBlocks s a := rfl

@[simp] theorem dmaBlocks_spend (n : Nat) (s : State) (a : Word) : dmaBlocks (spend n s) a = dmaBlocks s a := rfl

@[simp] theorem rd8_onCpu (g : Cpu → Cpu) (s : State) (a : Word) : rd8 (onCpu g s) a = rd8 s a := rfl

@[simp] theorem rd8_spend (n : Nat) (s : State) (a : Word) : rd8 (spend n s) a = rd8 s a := rfl

@[simp] theorem pendingBits_onCpu (g : Cpu → Cpu) (s : State) : pendingBits (onCpu g s) = pendingBits s := rfl

@[simp] theorem pending_onCpu (g : Cpu → Cpu) (s : State) : pending (onCpu g s) = pending s := rfl

theorem enterOamScan_onCpu (g : Cpu → Cpu) (s : State) : enterOamScan (onCpu g s) = onCpu g (enterOamScan s) := by
  unfold enterOamScan
  simp only [statEvent_if]
  rfl

theorem lcdOn_onCpu (g : Cpu → Cpu) (s : State) : lcdOn (onCpu g s) = onCpu g (lcdOn s) :=
  enterOamScan_onCpu g { s with ppu := { s.ppu with ly := 0#8, dotsLine := 0, px := 0 } }

theorem writeLcdc_onCpu (v : Byte) (g : Cpu → Cpu) (s : State) : writeLcdc v (onCpu g s) = onCpu g (writeLcdc v s) := by
  have on := lcdOn_onCpu g { s with ppu := { s.ppu with lcdc := v } }
  have off : lcdOff (onCpu g { s with ppu := { s.ppu with lcdc := v } }) =
      onCpu g (lcdOff { s with ppu := { s.ppu with lcdc := v } }) := rfl
  change (if (bit s.ppu.lcdc 7 && !bit v 7) = true then lcdOff (onCpu g { s with ppu := { s.ppu with lcdc := v } })
    else if (!bit s.ppu.lcdc 7 && bit v 7) = true then lcdOn (onCpu g { s with ppu := { s.ppu with lcdc := v } })
    else onCpu g { s with ppu := { s.ppu with lcdc := v } }) = _
  rw [on, off]
  unfold writeLcdc
  split
  · simp [*]
  · split <;> simp [*]

/-- A write through the decode commutes with a change of the Processor's registers. -/
theorem rawWrite_onCpu (a : Word) (v : Byte) (g : Cpu → Cpu) (s : State) :
    rawWrite a v (onCpu g s) = onCpu g (rawWrite a v s) := by
  unfold rawWrite
  split <;> try rfl
  · unfold audioWrite
    by_cases h : s.audio.external = true <;> simp [h] <;> rfl
  · exact writeLcdc_onCpu v g s

/-- A Processor store commutes with a change of its registers. -/
theorem wr8_onCpu (a : Word) (v : Byte) (g : Cpu → Cpu) (s : State) : wr8 a v (onCpu g s) = onCpu g (wr8 a v s) := by
  unfold wr8
  by_cases h : dmaBlocks s a = true <;> simp [h, rawWrite_onCpu]

/-- A push in one piece: the two stores, then SP moved by 2 (00_scope.md R6). -/
theorem push16_eq (w : Word) (s : State) :
    push16 w s =
      onCpu (fun c => { c with sp := c.sp - 2#16 })
        (wr8 (s.cpu.sp - 2#16) (loByte w) (wr8 (s.cpu.sp - 1#16) (hiByte w) s)) := by
  have h : s.cpu.sp - 1#16 - 1#16 = s.cpu.sp - 2#16 := by bv_omega
  simp only [push16, onCpu_cpu, wr8_onCpu, wr8_cpu, h, onCpu_onCpu]
  refine congrArg (fun g => onCpu g _) (funext fun c => ?_)
  have h' : c.sp - 1#16 - 1#16 = c.sp - 2#16 := by bv_omega
  simp only [h']

@[simp] theorem push16_cpu (w : Word) (s : State) : (push16 w s).cpu = { s.cpu with sp := s.cpu.sp - 2#16 } := by
  simp [push16_eq]

@[simp] theorem push16_cfg (w : Word) (s : State) : (push16 w s).cfg = s.cfg := by simp [push16_eq]

/-! ### The decode by address -/

/-- The I/O page by address (20_memory.md R54, R55, R61): a register, the audio range, or a stored byte. -/
theorem ioTarget_cases (n : Nat) :
    (n = 0xFF04 ∧ ioTarget n = .div) ∨
    (n = 0xFF05 ∧ ioTarget n = .tima) ∨
    (n = 0xFF06 ∧ ioTarget n = .tma) ∨
    (n = 0xFF07 ∧ ioTarget n = .tac) ∨
    (n = 0xFF0F ∧ ioTarget n = .ifReg) ∨
    (0xFF10 ≤ n ∧ n ≤ 0xFF3F ∧ ioTarget n = .audio) ∨
    (n = 0xFF40 ∧ ioTarget n = .lcdc) ∨
    (n = 0xFF41 ∧ ioTarget n = .stat) ∨
    (n = 0xFF42 ∧ ioTarget n = .scy) ∨
    (n = 0xFF43 ∧ ioTarget n = .scx) ∨
    (n = 0xFF44 ∧ ioTarget n = .ly) ∨
    (n = 0xFF45 ∧ ioTarget n = .lyc) ∨
    (n = 0xFF46 ∧ ioTarget n = .dmaSource) ∨
    (n = 0xFF47 ∧ ioTarget n = .bgp) ∨
    (n = 0xFF48 ∧ ioTarget n = .obp0) ∨
    (n = 0xFF49 ∧ ioTarget n = .obp1) ∨
    (n = 0xFF4A ∧ ioTarget n = .wy) ∨
    (n = 0xFF4B ∧ ioTarget n = .wx) ∨
    (n = 0xFFFF ∧ ioTarget n = .ieReg) ∨
    (ioTarget n = .cell n ∧ ¬ (0xFF10 ≤ n ∧ n ≤ 0xFF3F) ∧ n ≠ 0xFF04 ∧ n ≠ 0xFF05 ∧ n ≠ 0xFF06 ∧ n ≠ 0xFF07 ∧ n ≠ 0xFF0F ∧ n ≠ 0xFF40 ∧ n ≠ 0xFF41 ∧ n ≠ 0xFF42 ∧ n ≠ 0xFF43 ∧ n ≠ 0xFF44 ∧ n ≠ 0xFF45 ∧ n ≠ 0xFF46 ∧ n ≠ 0xFF47 ∧ n ≠ 0xFF48 ∧ n ≠ 0xFF49 ∧ n ≠ 0xFF4A ∧ n ≠ 0xFF4B ∧ n ≠ 0xFFFF) := by
  by_cases h0 : n = 0xFF04
  · exact .inl ⟨h0, by unfold ioTarget; rw [if_pos h0]⟩
  by_cases h1 : n = 0xFF05
  · exact .inr <| .inl ⟨h1, by unfold ioTarget; rw [if_neg h0, if_pos h1]⟩
  by_cases h2 : n = 0xFF06
  · exact .inr <| .inr <| .inl ⟨h2, by unfold ioTarget; rw [if_neg h0, if_neg h1, if_pos h2]⟩
  by_cases h3 : n = 0xFF07
  · exact .inr <| .inr <| .inr <| .inl ⟨h3, by unfold ioTarget; rw [if_neg h0, if_neg h1, if_neg h2, if_pos h3]⟩
  by_cases h4 : n = 0xFF0F
  · exact .inr <| .inr <| .inr <| .inr <| .inl ⟨h4, by unfold ioTarget; rw [if_neg h0, if_neg h1, if_neg h2, if_neg h3, if_pos h4]⟩
  by_cases h5 : 0xFF10 ≤ n ∧ n ≤ 0xFF3F
  · exact .inr <| .inr <| .inr <| .inr <| .inr <| .inl ⟨h5.1, h5.2, by unfold ioTarget; rw [if_neg h0, if_neg h1, if_neg h2, if_neg h3, if_neg h4, if_pos h5]⟩
  by_cases h6 : n = 0xFF40
  · exact .inr <| .inr <| .inr <| .inr <| .inr <| .inr <| .inl ⟨h6, by unfold ioTarget; rw [if_neg h0, if_neg h1, if_neg h2, if_neg h3, if_neg h4, if_neg h5, if_pos h6]⟩
  by_cases h7 : n = 0xFF41
  · exact .inr <| .inr <| .inr <| .inr <| .inr <| .inr <| .inr <| .inl ⟨h7, by unfold ioTarget; rw [if_neg h0, if_neg h1, if_neg h2, if_neg h3, if_neg h4, if_neg h5, if_neg h6, if_pos h7]⟩
  by_cases h8 : n = 0xFF42
  · exact .inr <| .inr <| .inr <| .inr <| .inr <| .inr <| .inr <| .inr <| .inl ⟨h8, by unfold ioTarget; rw [if_neg h0, if_neg h1, if_neg h2, if_neg h3, if_neg h4, if_neg h5, if_neg h6, if_neg h7, if_pos h8]⟩
  by_cases h9 : n = 0xFF43
  · exact .inr <| .inr <| .inr <| .inr <| .inr <| .inr <| .inr <| .inr <| .inr <| .inl ⟨h9, by unfold ioTarget; rw [if_neg h0, if_neg h1, if_neg h2, if_neg h3, if_neg h4, if_neg h5, if_neg h6, if_neg h7, if_neg h8, if_pos h9]⟩
  by_cases h10 : n = 0xFF44
  · exact .inr <| .inr <| .inr <| .inr <| .inr <| .inr <| .inr <| .inr <| .inr <| .inr <| .inl ⟨h10, by unfold ioTarget; rw [if_neg h0, if_neg h1, if_neg h2, if_neg h3, if_neg h4, if_neg h5, if_neg h6, if_neg h7, if_neg h8, if_neg h9, if_pos h10]⟩
  by_cases h11 : n = 0xFF45
  · exact .inr <| .inr <| .inr <| .inr <| .inr <| .inr <| .inr <| .inr <| .inr <| .inr <| .inr <| .inl ⟨h11, by unfold ioTarget; rw [if_neg h0, if_neg h1, if_neg h2, if_neg h3, if_neg h4, if_neg h5, if_neg h6, if_neg h7, if_neg h8, if_neg h9, if_neg h10, if_pos h11]⟩
  by_cases h12 : n = 0xFF46
  · exact .inr <| .inr <| .inr <| .inr <| .inr <| .inr <| .inr <| .inr <| .inr <| .inr <| .inr <| .inr <| .inl ⟨h12, by unfold ioTarget; rw [if_neg h0, if_neg h1, if_neg h2, if_neg h3, if_neg h4, if_neg h5, if_neg h6, if_neg h7, if_neg h8, if_neg h9, if_neg h10, if_neg h11, if_pos h12]⟩
  by_cases h13 : n = 0xFF47
  · exact .inr <| .inr <| .inr <| .inr <| .inr <| .inr <| .inr <| .inr <| .inr <| .inr <| .inr <| .inr <| .inr <| .inl ⟨h13, by unfold ioTarget; rw [if_neg h0, if_neg h1, if_neg h2, if_neg h3, if_neg h4, if_neg h5, if_neg h6, if_neg h7, if_neg h8, if_neg h9, if_neg h10, if_neg h11, if_neg h12, if_pos h13]⟩
  by_cases h14 : n = 0xFF48
  · exact .inr <| .inr <| .inr <| .inr <| .inr <| .inr <| .inr <| .inr <| .inr <| .inr <| .inr <| .inr <| .inr <| .inr <| .inl ⟨h14, by unfold ioTarget; rw [if_neg h0, if_neg h1, if_neg h2, if_neg h3, if_neg h4, if_neg h5, if_neg h6, if_neg h7, if_neg h8, if_neg h9, if_neg h10, if_neg h11, if_neg h12, if_neg h13, if_pos h14]⟩
  by_cases h15 : n = 0xFF49
  · exact .inr <| .inr <| .inr <| .inr <| .inr <| .inr <| .inr <| .inr <| .inr <| .inr <| .inr <| .inr <| .inr <| .inr <| .inr <| .inl ⟨h15, by unfold ioTarget; rw [if_neg h0, if_neg h1, if_neg h2, if_neg h3, if_neg h4, if_neg h5, if_neg h6, if_neg h7, if_neg h8, if_neg h9, if_neg h10, if_neg h11, if_neg h12, if_neg h13, if_neg h14, if_pos h15]⟩
  by_cases h16 : n = 0xFF4A
  · exact .inr <| .inr <| .inr <| .inr <| .inr <| .inr <| .inr <| .inr <| .inr <| .inr <| .inr <| .inr <| .inr <| .inr <| .inr <| .inr <| .inl ⟨h16, by unfold ioTarget; rw [if_neg h0, if_neg h1, if_neg h2, if_neg h3, if_neg h4, if_neg h5, if_neg h6, if_neg h7, if_neg h8, if_neg h9, if_neg h10, if_neg h11, if_neg h12, if_neg h13, if_neg h14, if_neg h15, if_pos h16]⟩
  by_cases h17 : n = 0xFF4B
  · exact .inr <| .inr <| .inr <| .inr <| .inr <| .inr <| .inr <| .inr <| .inr <| .inr <| .inr <| .inr <| .inr <| .inr <| .inr <| .inr <| .inr <| .inl ⟨h17, by unfold ioTarget; rw [if_neg h0, if_neg h1, if_neg h2, if_neg h3, if_neg h4, if_neg h5, if_neg h6, if_neg h7, if_neg h8, if_neg h9, if_neg h10, if_neg h11, if_neg h12, if_neg h13, if_neg h14, if_neg h15, if_neg h16, if_pos h17]⟩
  by_cases h18 : n = 0xFFFF
  · exact .inr <| .inr <| .inr <| .inr <| .inr <| .inr <| .inr <| .inr <| .inr <| .inr <| .inr <| .inr <| .inr <| .inr <| .inr <| .inr <| .inr <| .inr <| .inl ⟨h18, by unfold ioTarget; rw [if_neg h0, if_neg h1, if_neg h2, if_neg h3, if_neg h4, if_neg h5, if_neg h6, if_neg h7, if_neg h8, if_neg h9, if_neg h10, if_neg h11, if_neg h12, if_neg h13, if_neg h14, if_neg h15, if_neg h16, if_neg h17, if_pos h18]⟩
  exact .inr <| .inr <| .inr <| .inr <| .inr <| .inr <| .inr <| .inr <| .inr <| .inr <| .inr <| .inr <| .inr <| .inr <| .inr <| .inr <| .inr <| .inr <| .inr <| ⟨by unfold ioTarget; rw [if_neg h0, if_neg h1, if_neg h2, if_neg h3, if_neg h4, if_neg h5, if_neg h6, if_neg h7, if_neg h8, if_neg h9, if_neg h10, if_neg h11, if_neg h12, if_neg h13, if_neg h14, if_neg h15, if_neg h16, if_neg h17, if_neg h18], h5, h0, h1, h2, h3, h4, h6, h7, h8, h9, h10, h11, h12, h13, h14, h15, h16, h17, h18⟩

/-- The address map (20_memory.md R51): where an address below the I/O page lies, or that the I/O decode takes it. -/
theorem target_cases (a : Word) :
    (inCart a ∧ target a = .cart) ∨
    (0x8000 ≤ a.toNat ∧ a.toNat < 0xA000 ∧ target a = .cell a.toNat) ∨
    (0xC000 ≤ a.toNat ∧ a.toNat < 0xE000 ∧ target a = .cell a.toNat) ∨
    (0xE000 ≤ a.toNat ∧ a.toNat < 0xFE00 ∧ target a = .cell (a.toNat - 0x2000)) ∨
    (0xFE00 ≤ a.toNat ∧ a.toNat < 0xFF00 ∧ target a = .cell a.toNat) ∨
    (0xFF00 ≤ a.toNat ∧ target a = ioTarget a.toNat) := by
  have h : ∀ t, target a = t ↔ (if a.toNat < 0x8000 then Target.cart
      else if a.toNat < 0xA000 then .cell a.toNat
      else if a.toNat < 0xC000 then .cart
      else if a.toNat < 0xE000 then .cell a.toNat
      else if a.toNat < 0xFE00 then .cell (a.toNat - 0x2000)
      else if a.toNat < 0xFF00 then .cell a.toNat
      else ioTarget a.toNat) = t := fun t => Iff.rfl
  simp only [h, inCart]
  split
  · exact .inl ⟨by omega, rfl⟩
  split
  · exact .inr <| .inl ⟨by omega, by omega, rfl⟩
  split
  · exact .inl ⟨by omega, rfl⟩
  split
  · exact .inr <| .inr <| .inl ⟨by omega, by omega, rfl⟩
  split
  · exact .inr <| .inr <| .inr <| .inl ⟨by omega, by omega, rfl⟩
  split
  · exact .inr <| .inr <| .inr <| .inr <| .inl ⟨by omega, by omega, rfl⟩
  · exact .inr <| .inr <| .inr <| .inr <| .inr ⟨by omega, rfl⟩

/-- The I/O decode reaches no cartridge. -/
theorem ioTarget_ne_cart (n : Nat) : ioTarget n ≠ .cart := by
  intro hc
  rcases ioTarget_cases n with h' | h' | h' | h' | h' | h' | h' | h' | h' | h' | h' | h' | h' | h' | h' | h' | h' | h' | h' |
    h' <;>
    first
    | (have e := h'.2.symm.trans hc; cases e)
    | (have e := h'.2.2.symm.trans hc; cases e)
    | (have e := h'.1.symm.trans hc; cases e)

/-- The I/O decode reaches the audio unit exactly in its range. -/
theorem ioTarget_audio (n : Nat) (h : ioTarget n = .audio) : 0xFF10 ≤ n ∧ n ≤ 0xFF3F := by
  rcases ioTarget_cases n with h' | h' | h' | h' | h' | h' | h' | h' | h' | h' | h' | h' | h' | h' | h' | h' | h' | h' | h' |
    h' <;>
    first
    | exact ⟨h'.1, h'.2.1⟩
    | (have e := h'.2.symm.trans h; cases e)
    | (have e := h'.1.symm.trans h; cases e)

/-- The I/O decode's stored bytes are their own home. -/
theorem ioTarget_cell (n k : Nat) (h : ioTarget n = .cell k) : n = k ∧ ¬ (0xFF10 ≤ k ∧ k ≤ 0xFF3F) := by
  rcases ioTarget_cases n with h' | h' | h' | h' | h' | h' | h' | h' | h' | h' | h' | h' | h' | h' | h' | h' | h' | h' | h' |
    h' <;>
    first
    | (have e := h'.2.symm.trans h; cases e)
    | (have e := h'.2.2.symm.trans h; cases e)
    | (have e := h'.1.symm.trans h; injection e with e; omega)

/-- The cartridge answers exactly in its two ranges. -/
theorem target_cart_iff (a : Word) : target a = .cart ↔ inCart a := by
  rcases target_cases a with h | h | h | h | h | h
  · simp [h]
  all_goals
    refine ⟨fun hc => ?_, fun hc => ?_⟩
    · first
        | (exact absurd (h.2.symm.trans hc) (ioTarget_ne_cart _))
        | (rw [h.2.2] at hc; cases hc)
    · unfold inCart at hc; omega

/-- The audio unit answers exactly in its range. -/
theorem target_audio_iff (a : Word) : target a = .audio ↔ inAudio a := by
  have io : inAudio a → ioTarget a.toNat = .audio := by
    intro h
    unfold inAudio at h
    rcases ioTarget_cases a.toNat with h' | h' | h' | h' | h' | h' | h' | h' | h' | h' | h' | h' | h' | h' | h' | h' | h' |
      h' | h' | h' <;> first | exact h'.2.2 | omega
  rcases target_cases a with h | h | h | h | h | h
  case inr.inr.inr.inr.inr => rw [h.2]; exact ⟨ioTarget_audio _, io⟩
  case inl =>
    refine ⟨fun hc => by (rw [h.2] at hc; cases hc), fun hc => ?_⟩
    have := h.1; unfold inAudio at hc; unfold inCart at this; omega
  all_goals
    refine ⟨fun hc => ?_, fun hc => ?_⟩
    · rw [h.2.2] at hc; cases hc
    · unfold inAudio at hc; omega

/-- A cell's home is its own address, or the work RAM cell of an echo address (20_memory.md R56). -/
theorem target_cell {a : Word} {k : Nat} (h : target a = .cell k) :
    (a.toNat = k ∨ (0xE000 ≤ a.toNat ∧ a.toNat < 0xFE00 ∧ k + 0x2000 = a.toNat)) ∧ ¬ (0xE000 ≤ k ∧ k < 0xFE00) ∧
      ¬ (0xFF10 ≤ k ∧ k ≤ 0xFF3F) ∧ k < 65536 := by
  have := a.isLt
  rcases target_cases a with h' | h' | h' | h' | h' | h'
  case inl => rw [h'.2] at h; cases h
  case inr.inr.inr.inr.inr => rw [h'.2] at h; have := ioTarget_cell _ _ h; omega
  all_goals rw [h'.2.2] at h; injection h with h; omega

/-- Two addresses with the same home are the same address or an address of work RAM and its echo (20_memory.md R56). -/
theorem target_cell_eq {a b : Word} {k : Nat} (ha : target a = .cell k) (hb : target b = .cell k) :
    b = a ∨ (0xC000 ≤ a.toNat ∧ a.toNat < 0xDE00 ∧ b.toNat = a.toNat + 0x2000) ∨
      (0xE000 ≤ a.toNat ∧ a.toNat < 0xFE00 ∧ b.toNat + 0x2000 = a.toNat) := by
  have ha' := target_cell ha
  have hb' := target_cell hb
  by_cases h : b.toNat = a.toNat
  · exact .inl (BitVec.eq_of_toNat_eq h)
  · omega

/-- A byte read after a cell write: the cell's own addresses see it, no other address does (the default audio unit's cells are
written elsewhere). -/
theorem rawRead_write_cell (s : State) {a : Word} {k : Nat} (ha : target a = .cell k) (v : Byte) (b : Word) :
    rawRead { s with mem := s.mem.write k v } b = if target b = .cell k then v else rawRead s b := by
  unfold rawRead
  cases hb : target b with
  | cell j =>
    by_cases h : j = k
    · simp [h]
    · simp [h]
  | audio =>
    have h1 := (target_audio_iff b).1 hb
    have h2 := (target_cell ha).2.2.1
    have h3 : b.toNat ≠ k := by unfold inAudio at h1; omega
    simp [audioRead, h3]
  | _ => simp

/-- The address of a register's target. -/
def registerAt : Target → Nat
  | .div => 0xFF04 | .tima => 0xFF05 | .tma => 0xFF06 | .tac => 0xFF07 | .ifReg => 0xFF0F | .ieReg => 0xFFFF
  | .lcdc => 0xFF40 | .stat => 0xFF41 | .scy => 0xFF42 | .scx => 0xFF43 | .ly => 0xFF44 | .lyc => 0xFF45
  | .dmaSource => 0xFF46 | .bgp => 0xFF47 | .obp0 => 0xFF48 | .obp1 => 0xFF49 | .wy => 0xFF4A | .wx => 0xFF4B
  | .cart | .audio | .cell _ => 0

/-- A target with an address of its own is reached from that address only. -/
theorem target_registerAt {b : Word} {t : Target} (h : target b = t) (ht : registerAt t ≠ 0) : b.toNat = registerAt t := by
  subst h
  rcases target_cases b with h | h | h | h | h | h
  · rw [h.2] at ht; exact absurd rfl ht
  · rw [h.2.2] at ht; exact absurd rfl ht
  · rw [h.2.2] at ht; exact absurd rfl ht
  · rw [h.2.2] at ht; exact absurd rfl ht
  · rw [h.2.2] at ht; exact absurd rfl ht
  · rw [h.2] at ht ⊢
    rcases ioTarget_cases b.toNat with h' | h' | h' | h' | h' | h' | h' | h' | h' | h' | h' | h' | h' | h' | h' | h' | h' | h' | h' | h' <;>
    first
    | (rw [h'.2]; exact h'.1)
    | (rw [h'.2.2] at ht; exact absurd rfl ht)
    | (rw [h'.1] at ht; exact absurd rfl ht)

/-- And every register is reached from its address. -/
theorem target_of_registerAt {a : Word} {t : Target} (ht : registerAt t ≠ 0) (h : a.toNat = registerAt t) : target a = t := by
  have low : 0xFF00 ≤ a.toNat := by
    rw [h]; cases t <;> first | exact absurd rfl ht | simp only [registerAt, Nat.reduceLeDiff]
  rcases target_cases a with h' | h' | h' | h' | h' | h'
  · have := h'.1; unfold inCart at this; omega
  iterate 4 omega
  · rw [h'.2, h]
    cases t <;> first | exact absurd rfl ht | 
      simp only [registerAt, ioTarget, Nat.reduceEqDiff, if_true, if_false, Nat.reduceLeDiff, and_true, and_false]

/-- The stored bytes with an address of their own (20_memory.md R51, R61). -/
theorem target_stored {a : Word}
    (h : (0x8000 ≤ a.toNat ∧ a.toNat < 0xA000) ∨ (0xC000 ≤ a.toNat ∧ a.toNat < 0xE000) ∨
      (0xFE00 ≤ a.toNat ∧ a.toNat < 0xFF04) ∨ (0xFF08 ≤ a.toNat ∧ a.toNat < 0xFF0F) ∨
      (0xFF4C ≤ a.toNat ∧ a.toNat ≤ 0xFFFE)) : target a = .cell a.toNat := by
  rcases target_cases a with h' | h' | h' | h' | h' | h'
  · have := h'.1; unfold inCart at this; omega
  · exact h'.2.2
  · exact h'.2.2
  · omega
  · exact h'.2.2
  · rw [h'.2]
    rcases ioTarget_cases a.toNat with h' | h' | h' | h' | h' | h' | h' | h' | h' | h' | h' | h' | h' | h' | h' | h' | h' | h' |
      h' | h' <;>
    first
    | exact h'.1
    | (exfalso; omega)

/-- The echo of work RAM (20_memory.md R56). -/
theorem target_echo {a : Word} (h : 0xE000 ≤ a.toNat) (h' : a.toNat < 0xFE00) : target a = .cell (a.toNat - 0x2000) := by
  rcases target_cases a with h'' | h'' | h'' | h'' | h'' | h''
  · have := h''.1; unfold inCart at this; omega
  · omega
  · omega
  · exact h''.2.2
  · omega
  · omega

end Sys2Proof.Laws
end

