-- ==== Sys2Proof/Laws/Exec.lean ====
section
/-! SUPPORT. The instruction's meaning row by row: what `exec` runs for each family of the opcode table, and the only ways a meaning
changes the state. -/

namespace Sys2Proof.Laws

open Sys2Proof.Machine

/-! ### What `exec` runs, by family -/

theorem exec_ldRow (r : Reg8) (x : Opnd8) (s : State) : exec (ldRow r x) s = .next (ldOp r x s) := by
  cases r <;> rcases x with q | _ <;> first | rfl | (cases q <;> rfl)

theorem exec_ldMHlRow (r : Reg8) (s : State) : exec (ldMHlRow r) s = .next (ldMHlOp r s) := by
  cases r <;> rfl

theorem exec_ldImmRow (x : Opnd8) (n : Byte) (s : State) : exec (ldImmRow x n) s = .next (ldImmOp x n s) := by
  rcases x with q | _ <;> first | rfl | (cases q <;> rfl)

theorem exec_incRow (x : Opnd8) (s : State) : exec (incRow x) s = .next (incOp x s) := by
  rcases x with q | _ <;> first | rfl | (cases q <;> rfl)

theorem exec_decRow (x : Opnd8) (s : State) : exec (decRow x) s = .next (decOp x s) := by
  rcases x with q | _ <;> first | rfl | (cases q <;> rfl)

theorem exec_aluRow (op : Alu) (x : Opnd8) (s : State) : exec (aluRow op x) s = .next (aluOnOp op x s) := by
  cases op <;> rcases x with q | _ <;> first | rfl | (cases q <;> rfl)

theorem exec_aluImmRow (op : Alu) (n : Byte) (s : State) : exec (aluImmRow op n) s = .next (aluOp op n 2 s) := by
  cases op <;> rfl

theorem exec_ld16Row (r : Reg16) (nn : Word) (s : State) : exec (ld16Row r nn) s = .next (ld16Op r nn s) := by
  cases r <;> rfl

theorem exec_addHlRow (r : Reg16) (s : State) : exec (addHlRow r) s = .next (addHlOp r s) := by
  cases r <;> rfl

theorem exec_inc16Row (r : Reg16) (s : State) : exec (inc16Row r) s = .next (step16Op r 1#16 s) := by
  cases r <;> rfl

theorem exec_dec16Row (r : Reg16) (s : State) : exec (dec16Row r) s = .next (step16Op r 0xFFFF#16 s) := by
  cases r <;> rfl

theorem exec_pushRow (r : PairQ) (s : State) : exec (pushRow r) s = .next (pushOp r s) := by
  cases r <;> rfl

theorem exec_popRow (r : PairQ) (s : State) : exec (popRow r) s = .next (popOp r s) := by
  cases r <;> rfl

theorem exec_jpRow (cc : Cond) (nn : Word) (s : State) : exec (jpRow cc nn) s = .next (jpCcOp cc nn s) := by
  cases cc <;> rfl

theorem exec_jrRow (cc : Cond) (e : Byte) (s : State) : exec (jrRow cc e) s = .next (jrCcOp cc e s) := by
  cases cc <;> rfl

theorem exec_callRow (cc : Cond) (nn : Word) (s : State) : exec (callRow cc nn) s = .next (callCcOp cc nn s) := by
  cases cc <;> rfl

theorem exec_retRow (cc : Cond) (s : State) : exec (retRow cc) s = .next (retCcOp cc s) := by
  cases cc <;> rfl

theorem exec_rstRow (t : Oct) (s : State) : exec (rstRow t) s = .next (rstOp t s) := by
  cases t <;> rfl

theorem exec_undefRow (u : Hole) (s : State) : exec (undefRow u) s = .next (doNothing s) := by
  cases u <;> rfl

theorem exec_rotRow (op : Rot) (x : Opnd8) (s : State) : exec (rotRow op x) s = .next (rotOp op x s) := by
  cases op <;> rcases x with q | _ <;> first | rfl | (cases q <;> rfl)

theorem exec_bitRow (b : Oct) (x : Opnd8) (s : State) : exec (bitRow b x) s = .next (bitOp b x s) := by
  cases b <;> rcases x with q | _ <;> first | rfl | (cases q <;> rfl)

theorem exec_resRow (b : Oct) (x : Opnd8) (s : State) : exec (resRow b x) s = .next (resOp b x s) := by
  cases b <;> rcases x with q | _ <;> first | rfl | (cases q <;> rfl)

theorem exec_setRow (b : Oct) (x : Opnd8) (s : State) : exec (setRow b x) s = .next (setOp b x s) := by
  cases b <;> rcases x with q | _ <;> first | rfl | (cases q <;> rfl)

/-! ### The only ways a meaning, or an interrupt entry, changes the state -/

/-- A change of the Processor's registers that leaves the phase alone and F[3:0] zero (10_state.md R12). -/
def Tame (g : Cpu → Cpu) : Prop := ∀ c, (g c).phase = c.phase ∧ (c.f &&& 0x0F#8 = 0#8 → (g c).f &&& 0x0F#8 = 0#8)

theorem Tame.keep {g : Cpu → Cpu} (hp : ∀ c, (g c).phase = c.phase) (hf : ∀ c, (g c).f = c.f) : Tame g :=
  fun c => ⟨hp c, fun h => by rw [hf c, h]⟩

theorem Tame.pack {g : Cpu → Cpu} (hp : ∀ c, (g c).phase = c.phase)
    (hf : ∀ c, ∃ z n h k, (g c).f = packFlags z n h k) : Tame g :=
  fun c => ⟨hp c, fun _ => by obtain ⟨z, n, h, k, e⟩ := hf c; rw [e, packFlags_low]⟩

theorem tame_setReg (r : Reg8) (v : State → Byte) (s : State) : Tame (fun c => c.setReg r (v s)) :=
  Tame.keep (fun c => by cases r <;> rfl) (fun c => by cases r <;> rfl)

theorem tame_setReg16 (r : Reg16) (w : Cpu → Word) : Tame (fun c => c.setReg16 r (w c)) :=
  Tame.keep (fun c => by cases r <;> rfl) (fun c => by cases r <;> rfl)

theorem tame_setPairQ (r : PairQ) (g : Cpu → Cpu) (w : Word) (hg : Tame g) : Tame (fun c => (g c).setPairQ r w) := by
  intro c
  refine ⟨(show _ = (g c).phase by cases r <;> rfl).trans (hg c).1, fun h => ?_⟩
  cases r with
  | af => exact masked_low _
  | bc => exact (hg c).2 h
  | de => exact (hg c).2 h
  | hl => exact (hg c).2 h

/-- `t` comes from `s` by tame changes of the Processor's registers, Processor stores, the timer counter reset of STOP and the
acknowledgement of an interrupt request, in any order. -/
inductive Reaches : State → State → Prop where
  | refl (s : State) : Reaches s s
  | cpu (g : Cpu → Cpu) {s t : State} : Tame g → Reaches s t → Reaches s (onCpu g t)
  | store (a : Word) (v : Byte) {s t : State} : Reaches s t → Reaches s (wr8 a v t)
  | timer {s t : State} : Reaches s t → Reaches s { t with timer := t.timer.resetCounter }
  | ack (i : Nat) {s t : State} : Reaches s t → Reaches s { t with ifReg := clearBit t.ifReg i }

theorem Reaches.keep {g : Cpu → Cpu} {s t : State} (h : Reaches s t)
    (hp : ∀ c, (g c).phase = c.phase := by intro _; rfl) (hf : ∀ c, (g c).f = c.f := by intro _; rfl) :
    Reaches s (onCpu g t) := h.cpu g (Tame.keep hp hf)

theorem Reaches.pack {g : Cpu → Cpu} {s t : State} (h : Reaches s t)
    (hp : ∀ c, (g c).phase = c.phase := by intro _; rfl)
    (hf : ∀ c, ∃ z n h k, (g c).f = packFlags z n h k := by intro _; exact ⟨_, _, _, _, rfl⟩) :
    Reaches s (onCpu g t) := h.cpu g (Tame.pack hp hf)

theorem Reaches.spend (n : Nat) {s t : State} (h : Reaches s t) : Reaches s (spend n t) := h.keep

theorem Reaches.setOperand (x : Opnd8) (v : Byte) {s t : State} (h : Reaches s t) : Reaches s (setOperand x v t) := by
  cases x with
  | reg r => exact h.cpu _ (tame_setReg r (fun _ => v) t)
  | mHl => exact h.store _ _

theorem Reaches.push16 (w : Word) {s t : State} (h : Reaches s t) : Reaches s (push16 w t) :=
  (((h.keep).store _ _).keep).store _ _

theorem Reaches.modifyOp (g : Byte → Bool → Out8) (x : Opnd8) (n : Nat) {s t : State} (h : Reaches s t) :
    Reaches s (modifyOp g x n t) := ((h.setOperand x _).pack).spend n

theorem Reaches.ifCond (cc : Cond) (g : State → State) (m n : Nat) {s t : State} (h : Reaches s t) (hg : Reaches s (g t)) :
    Reaches s (ifCond cc g m n t) := by
  unfold Machine.ifCond; split
  · exact hg.spend m
  · exact h.spend n

theorem Reaches.prefixedOp (op2 : Byte) {s t : State} (h : Reaches s t) : Reaches s (prefixedOp op2 t) := by
  unfold Machine.prefixedOp
  dsimp only
  split
  · exact h.modifyOp _ _ _
  · exact (h.pack).spend _
  · exact (h.setOperand _ _).spend _
  · exact (h.setOperand _ _).spend _

/-! Every shared operation of the meanings reaches the state it answers in those ways. -/

theorem reaches_doNothing (s : State) : Reaches s (doNothing s) := by
  unfold doNothing; exact (Reaches.refl s).spend 1

theorem reaches_haltOp (s : State) : Reaches s (haltOp s) := by
  unfold haltOp; exact ((Reaches.refl s).keep).spend _

theorem reaches_stopOp (s : State) : Reaches s (stopOp s) := by
  unfold stopOp; exact ((Reaches.refl s).timer).spend 1

theorem reaches_diOp (s : State) : Reaches s (diOp s) := by
  unfold diOp; exact ((Reaches.refl s).keep).spend _

theorem reaches_eiOp (s : State) : Reaches s (eiOp s) := by
  unfold eiOp; exact ((Reaches.refl s).keep).spend _

theorem reaches_ldOp (r : Reg8) (x : Opnd8) (s : State) : Reaches s (ldOp r x s) := by
  unfold ldOp; exact ((Reaches.refl s).cpu _ (tame_setReg r (fun s => operand s x) s)).spend _

theorem reaches_ldMHlOp (r : Reg8) (s : State) : Reaches s (ldMHlOp r s) := by
  unfold ldMHlOp; exact ((Reaches.refl s).store _ _).spend _

theorem reaches_ldImmOp (x : Opnd8) (n : Byte) (s : State) : Reaches s (ldImmOp x n s) := by
  unfold ldImmOp; exact ((Reaches.refl s).setOperand _ _).spend _

theorem reaches_ldAFrom (a : Word) (n : Nat) (s : State) : Reaches s (ldAFrom a n s) := by
  unfold ldAFrom; exact ((Reaches.refl s).keep).spend _

theorem reaches_ldATo (a : Word) (n : Nat) (s : State) : Reaches s (ldATo a n s) := by
  unfold ldATo; exact ((Reaches.refl s).store _ _).spend _

theorem reaches_ldAFromHl (d : Word) (s : State) : Reaches s (ldAFromHl d s) := by
  unfold ldAFromHl; exact ((Reaches.refl s).keep).spend _

theorem reaches_ldAToHl (d : Word) (s : State) : Reaches s (ldAToHl d s) := by
  unfold ldAToHl; exact (((Reaches.refl s).store _ _).keep).spend _

theorem reaches_ldABc (s : State) : Reaches s (ldABc s) := reaches_ldAFrom _ _ s

theorem reaches_ldADe (s : State) : Reaches s (ldADe s) := reaches_ldAFrom _ _ s

theorem reaches_ldBcA (s : State) : Reaches s (ldBcA s) := reaches_ldATo _ _ s

theorem reaches_ldDeA (s : State) : Reaches s (ldDeA s) := reaches_ldATo _ _ s

theorem reaches_ldhACOp (s : State) : Reaches s (ldhACOp s) := reaches_ldAFrom _ _ s

theorem reaches_ldhCAOp (s : State) : Reaches s (ldhCAOp s) := reaches_ldATo _ _ s

theorem reaches_ld16Op (r : Reg16) (nn : Word) (s : State) : Reaches s (ld16Op r nn s) := by
  unfold ld16Op; exact ((Reaches.refl s).cpu _ (tame_setReg16 r (fun _ => nn))).spend _

theorem reaches_ldMSpOp (nn : Word) (s : State) : Reaches s (ldMSpOp nn s) := by
  unfold ldMSpOp wr16; exact (((Reaches.refl s).store _ _).store _ _).spend _

theorem reaches_ldSpHlOp (s : State) : Reaches s (ldSpHlOp s) := by
  unfold ldSpHlOp; exact ((Reaches.refl s).keep).spend _

theorem reaches_ldHlSpOp (e : Byte) (s : State) : Reaches s (ldHlSpOp e s) := by
  unfold ldHlSpOp; exact ((Reaches.refl s).pack).spend _

theorem reaches_pushOp (r : PairQ) (s : State) : Reaches s (pushOp r s) := by
  unfold pushOp; exact ((Reaches.refl s).push16 _).spend _

theorem reaches_popOp (r : PairQ) (s : State) : Reaches s (popOp r s) := by
  unfold popOp
  exact ((Reaches.refl s).cpu _ (tame_setPairQ r dropTop _ (Tame.keep (fun _ => rfl) (fun _ => rfl)))).spend _

theorem reaches_aluOp (op : Alu) (v : Byte) (n : Nat) (s : State) : Reaches s (aluOp op v n s) := by
  unfold aluOp; exact ((Reaches.refl s).pack (fun c => by cases op <;> rfl)).spend _

theorem reaches_aluOnOp (op : Alu) (x : Opnd8) (s : State) : Reaches s (aluOnOp op x s) := reaches_aluOp _ _ _ s

theorem reaches_incOp (x : Opnd8) (s : State) : Reaches s (incOp x s) := by
  unfold incOp; exact (Reaches.refl s).modifyOp _ _ _

theorem reaches_decOp (x : Opnd8) (s : State) : Reaches s (decOp x s) := by
  unfold decOp; exact (Reaches.refl s).modifyOp _ _ _

theorem reaches_addHlOp (r : Reg16) (s : State) : Reaches s (addHlOp r s) := by
  unfold addHlOp; exact ((Reaches.refl s).pack).spend _

theorem reaches_step16Op (r : Reg16) (d : Word) (s : State) : Reaches s (step16Op r d s) := by
  unfold step16Op; exact ((Reaches.refl s).cpu _ (tame_setReg16 r (fun c => c.reg16 r + d))).spend _

theorem reaches_addSpOp (e : Byte) (s : State) : Reaches s (addSpOp e s) := by
  unfold addSpOp; exact ((Reaches.refl s).pack).spend _

theorem reaches_rotAOp (op : Rot) (s : State) : Reaches s (rotAOp op s) := by
  unfold rotAOp; exact ((Reaches.refl s).pack).spend _

theorem reaches_daaOp (s : State) : Reaches s (daaOp s) := by
  unfold daaOp; exact ((Reaches.refl s).pack).spend _

theorem reaches_cplOp (s : State) : Reaches s (cplOp s) := by
  unfold cplOp; exact ((Reaches.refl s).pack).spend _

theorem reaches_scfOp (s : State) : Reaches s (scfOp s) := by
  unfold scfOp; exact ((Reaches.refl s).pack).spend _

theorem reaches_ccfOp (s : State) : Reaches s (ccfOp s) := by
  unfold ccfOp; exact ((Reaches.refl s).pack).spend _

theorem reaches_jpOp (nn : Word) (s : State) : Reaches s (jpOp nn s) := by
  unfold jpOp goto; exact ((Reaches.refl s).keep).spend _

theorem reaches_jpCcOp (cc : Cond) (nn : Word) (s : State) : Reaches s (jpCcOp cc nn s) := by
  unfold jpCcOp; exact (Reaches.refl s).ifCond _ _ _ _ ((Reaches.refl s).keep)

theorem reaches_jpHlOp (s : State) : Reaches s (jpHlOp s) := by
  unfold jpHlOp goto; exact ((Reaches.refl s).keep).spend _

theorem reaches_jrOp (e : Byte) (s : State) : Reaches s (jrOp e s) := by
  unfold jrOp jumpRel goto; exact ((Reaches.refl s).keep).spend _

theorem reaches_jrCcOp (cc : Cond) (e : Byte) (s : State) : Reaches s (jrCcOp cc e s) := by
  unfold jrCcOp; exact (Reaches.refl s).ifCond _ _ _ _ (by unfold jumpRel goto; exact (Reaches.refl s).keep)

theorem reaches_callOp (nn : Word) (s : State) : Reaches s (callOp nn s) := by
  unfold callOp callTo goto; exact (((Reaches.refl s).push16 _).keep).spend _

theorem reaches_callCcOp (cc : Cond) (nn : Word) (s : State) : Reaches s (callCcOp cc nn s) := by
  unfold callCcOp; exact (Reaches.refl s).ifCond _ _ _ _ (by unfold callTo goto; exact ((Reaches.refl s).push16 _).keep)

theorem reaches_retOp (s : State) : Reaches s (retOp s) := by
  unfold retOp popPc; exact ((Reaches.refl s).keep).spend _

theorem reaches_retCcOp (cc : Cond) (s : State) : Reaches s (retCcOp cc s) := by
  unfold retCcOp; exact (Reaches.refl s).ifCond _ _ _ _ ((Reaches.refl s).keep)

theorem reaches_retiOp (s : State) : Reaches s (retiOp s) := by
  unfold retiOp returnFromInterrupt; exact ((Reaches.refl s).keep).spend _

theorem reaches_rstOp (t : Oct) (s : State) : Reaches s (rstOp t s) := by
  unfold rstOp callTo goto; exact (((Reaches.refl s).push16 _).keep).spend _

theorem reaches_rotOp (op : Rot) (x : Opnd8) (s : State) : Reaches s (rotOp op x s) := by
  unfold rotOp; exact (Reaches.refl s).modifyOp _ _ _

theorem reaches_bitOp (b : Oct) (x : Opnd8) (s : State) : Reaches s (bitOp b x s) := by
  unfold bitOp; exact ((Reaches.refl s).pack).spend _

theorem reaches_resOp (b : Oct) (x : Opnd8) (s : State) : Reaches s (resOp b x s) := by
  unfold resOp; exact ((Reaches.refl s).setOperand _ _).spend _

theorem reaches_setOp (b : Oct) (x : Opnd8) (s : State) : Reaches s (setOp b x s) := by
  unfold setOp; exact ((Reaches.refl s).setOperand _ _).spend _

/-- Every instruction completes, and changes the state only in those ways. -/
theorem exec_reaches (i : Instr) (s : State) : ∃ t, exec i s = .next t ∧ Reaches s t := by
  cases i <;> refine ⟨_, rfl, ?_⟩ <;>
    simp only [reaches_doNothing, reaches_haltOp, reaches_stopOp, reaches_diOp, reaches_eiOp, reaches_ldOp, reaches_ldMHlOp,
      reaches_ldImmOp, reaches_ldAFrom, reaches_ldATo, reaches_ldAFromHl, reaches_ldAToHl, reaches_ldABc,
      reaches_ldADe, reaches_ldBcA, reaches_ldDeA, reaches_ldhACOp, reaches_ldhCAOp, reaches_ld16Op,
      reaches_ldMSpOp, reaches_ldSpHlOp, reaches_ldHlSpOp, reaches_pushOp, reaches_popOp, reaches_aluOp,
      reaches_aluOnOp, reaches_incOp, reaches_decOp, reaches_addHlOp, reaches_step16Op, reaches_addSpOp,
      reaches_rotAOp, reaches_daaOp, reaches_cplOp, reaches_scfOp, reaches_ccfOp, reaches_jpOp, reaches_jpCcOp,
      reaches_jpHlOp, reaches_jrOp, reaches_jrCcOp, reaches_callOp, reaches_callCcOp, reaches_retOp,
      reaches_retCcOp, reaches_retiOp, reaches_rstOp, reaches_rotOp, reaches_bitOp, reaches_resOp, reaches_setOp,
      (Reaches.refl s).prefixedOp]

/-- An interrupt entry changes the state only in those ways. -/
theorem dispatch_reaches (s : State) : Reaches s (dispatch s) := by
  unfold dispatch
  dsimp only
  refine Reaches.spend 5 ?_
  split
  · exact ((((Reaches.refl s).keep).push16 _).ack _).keep
  · exact (((Reaches.refl s).keep).push16 _).keep

/-- A property of states that each of those ways keeps is kept by every meaning and every interrupt entry. -/
theorem Reaches.keeps {P : State → Prop} (cpu : ∀ g s, Tame g → P s → P (onCpu g s)) (store : ∀ a v s, P s → P (wr8 a v s))
    (timer : ∀ s, P s → P { s with timer := s.timer.resetCounter }) (ack : ∀ i s, P s → P { s with ifReg := clearBit s.ifReg i })
    {s t : State} (h : Reaches s t) : P s → P t := by
  intro hs
  induction h with
  | refl => exact hs
  | cpu g hg _ ih => exact cpu g _ hg (ih hs)
  | store a v _ ih => exact store a v _ (ih hs)
  | timer _ ih => exact timer _ (ih hs)
  | ack i _ ih => exact ack i _ (ih hs)

/-- The ways chain. -/
theorem Reaches.trans {s t u : State} (h : Reaches s t) (h' : Reaches t u) : Reaches s u := by
  induction h' with
  | refl => exact h
  | cpu g hg _ ih => exact (ih h).cpu g hg
  | store a v _ ih => exact (ih h).store a v
  | timer _ ih => exact (ih h).timer
  | ack i _ ih => exact (ih h).ack i

/-! ### The cost, and who halts -/

/-- After an instruction at most five machine cycles remain, and a halted Processor has none (40_engine_system.md R114, R119,
R120), if it was not halted before. -/
def Fits (s t : State) : Prop := t.cpu.busy ≤ 5 ∧ (t.cpu.halted = s.cpu.halted ∨ t.cpu.busy = 0)

theorem Fits.of {s : State} (n : Nat) (u : State) (h6 : n ≤ 6) (h : u.cpu.halted = s.cpu.halted) : Fits s (spend n u) :=
  ⟨Nat.sub_le_sub_right h6 1, .inl h⟩

theorem opCost_le (x : Opnd8) {r m n : Nat} (hr : r ≤ n) (hm : m ≤ n) : opCost x r m ≤ n := by cases x <;> assumption

@[simp] theorem setOperand_halted (x : Opnd8) (v : Byte) (s : State) : (setOperand x v s).cpu.halted = s.cpu.halted := by
  cases x with
  | reg r => exact setReg_halted s.cpu r v
  | mHl => rw [setOperand, wr8_cpu]

@[simp] theorem setReg16_halted (c : Cpu) (r : Reg16) (w : Word) : (c.setReg16 r w).halted = c.halted := by cases r <;> rfl

@[simp] theorem setPairQ_halted (c : Cpu) (r : PairQ) (w : Word) : (c.setPairQ r w).halted = c.halted := by cases r <;> rfl

@[simp] theorem setAluResult_halted (c : Cpu) (op : Alu) (v : Byte) : (c.setAluResult op v).halted = c.halted := by
  cases op <;> rfl

theorem Fits.modifyOp (g : Byte → Bool → Out8) (x : Opnd8) {n : Nat} (s : State) (h : n ≤ 6) : Fits s (modifyOp g x n s) :=
  Fits.of _ _ h (setOperand_halted x _ s)

theorem Fits.ifCond (cc : Cond) (g : State → State) {m n : Nat} {s : State} (hm : m ≤ 6) (hn : n ≤ 6)
    (hg : (g s).cpu.halted = s.cpu.halted) : Fits s (ifCond cc g m n s) := by
  unfold Machine.ifCond; split
  · exact Fits.of _ _ hm hg
  · exact Fits.of _ _ hn rfl

theorem Fits.prefixedOp (op2 : Byte) (s : State) : Fits s (prefixedOp op2 s) := by
  unfold Machine.prefixedOp
  dsimp only
  split
  · exact Fits.modifyOp _ _ _ (opCost_le _ (by decide) (by decide))
  · exact Fits.of _ _ (opCost_le _ (by decide) (by decide)) rfl
  · exact Fits.of _ _ (opCost_le _ (by decide) (by decide)) (setOperand_halted _ _ _)
  · exact Fits.of _ _ (opCost_le _ (by decide) (by decide)) (setOperand_halted _ _ _)

theorem fits_doNothing (s : State) : Fits s (doNothing s) := Fits.of _ _ (by decide) rfl

theorem fits_haltOp (s : State) : Fits s (haltOp s) := ⟨Nat.zero_le 5, .inr rfl⟩

theorem fits_stopOp (s : State) : Fits s (stopOp s) := Fits.of _ _ (by decide) rfl

theorem fits_diOp (s : State) : Fits s (diOp s) := Fits.of _ _ (by decide) rfl

theorem fits_eiOp (s : State) : Fits s (eiOp s) := Fits.of _ _ (by decide) rfl

theorem fits_ldOp (r : Reg8) (x : Opnd8) (s : State) : Fits s (ldOp r x s) := Fits.of _ _ (opCost_le _ (by decide) (by decide)) (setReg_halted _ _ _)

theorem fits_ldMHlOp (r : Reg8) (s : State) : Fits s (ldMHlOp r s) := Fits.of _ _ (by decide) (congrArg Cpu.halted (wr8_cpu _ _ _))

theorem fits_ldImmOp (x : Opnd8) (n : Byte) (s : State) : Fits s (ldImmOp x n s) := Fits.of _ _ (opCost_le _ (by decide) (by decide)) (setOperand_halted _ _ _)

theorem fits_ldAFrom (a : Word) (s : State) {n : Nat} (h : n ≤ 6) : Fits s (ldAFrom a n s) :=
  Fits.of _ _ h rfl

theorem fits_ldATo (a : Word) (s : State) {n : Nat} (h : n ≤ 6) : Fits s (ldATo a n s) :=
  Fits.of _ _ h (congrArg Cpu.halted (wr8_cpu _ _ _))

theorem fits_ldAFromHl (d : Word) (s : State) : Fits s (ldAFromHl d s) := Fits.of _ _ (by decide) rfl

theorem fits_ldAToHl (d : Word) (s : State) : Fits s (ldAToHl d s) := Fits.of _ _ (by decide) (by simp [onCpu, Cpu.setHl])

theorem fits_ldABc (s : State) : Fits s (ldABc s) := fits_ldAFrom _ s (by decide)

theorem fits_ldADe (s : State) : Fits s (ldADe s) := fits_ldAFrom _ s (by decide)

theorem fits_ldBcA (s : State) : Fits s (ldBcA s) := fits_ldATo _ s (by decide)

theorem fits_ldDeA (s : State) : Fits s (ldDeA s) := fits_ldATo _ s (by decide)

theorem fits_ldhACOp (s : State) : Fits s (ldhACOp s) := fits_ldAFrom _ s (by decide)

theorem fits_ldhCAOp (s : State) : Fits s (ldhCAOp s) := fits_ldATo _ s (by decide)

theorem fits_ld16Op (r : Reg16) (nn : Word) (s : State) : Fits s (ld16Op r nn s) := Fits.of _ _ (by decide) (setReg16_halted _ _ _)

theorem fits_ldMSpOp (nn : Word) (s : State) : Fits s (ldMSpOp nn s) := Fits.of _ _ (by decide) (by simp [wr16])

theorem fits_ldSpHlOp (s : State) : Fits s (ldSpHlOp s) := Fits.of _ _ (by decide) rfl

theorem fits_ldHlSpOp (e : Byte) (s : State) : Fits s (ldHlSpOp e s) := Fits.of _ _ (by decide) rfl

theorem fits_pushOp (r : PairQ) (s : State) : Fits s (pushOp r s) := Fits.of _ _ (by decide) (by simp)

theorem fits_popOp (r : PairQ) (s : State) : Fits s (popOp r s) := Fits.of _ _ (by decide) (setPairQ_halted _ _ _)

theorem fits_aluOp (op : Alu) (v : Byte) (s : State) {n : Nat} (h : n ≤ 6) : Fits s (aluOp op v n s) :=
  Fits.of _ _ h (setAluResult_halted _ _ _)

theorem fits_aluOnOp (op : Alu) (x : Opnd8) (s : State) : Fits s (aluOnOp op x s) := fits_aluOp _ _ s (opCost_le _ (by decide) (by decide))

theorem fits_incOp (x : Opnd8) (s : State) : Fits s (incOp x s) := Fits.modifyOp _ _ _ (opCost_le _ (by decide) (by decide))

theorem fits_decOp (x : Opnd8) (s : State) : Fits s (decOp x s) := Fits.modifyOp _ _ _ (opCost_le _ (by decide) (by decide))

theorem fits_addHlOp (r : Reg16) (s : State) : Fits s (addHlOp r s) := Fits.of _ _ (by decide) rfl

theorem fits_step16Op (r : Reg16) (d : Word) (s : State) : Fits s (step16Op r d s) := Fits.of _ _ (by decide) (setReg16_halted _ _ _)

theorem fits_addSpOp (e : Byte) (s : State) : Fits s (addSpOp e s) := Fits.of _ _ (by decide) rfl

theorem fits_rotAOp (op : Rot) (s : State) : Fits s (rotAOp op s) := Fits.of _ _ (by decide) rfl

theorem fits_daaOp (s : State) : Fits s (daaOp s) := Fits.of _ _ (by decide) rfl

theorem fits_cplOp (s : State) : Fits s (cplOp s) := Fits.of _ _ (by decide) rfl

theorem fits_scfOp (s : State) : Fits s (scfOp s) := Fits.of _ _ (by decide) rfl

theorem fits_ccfOp (s : State) : Fits s (ccfOp s) := Fits.of _ _ (by decide) rfl

theorem fits_jpOp (nn : Word) (s : State) : Fits s (jpOp nn s) := Fits.of _ _ (by decide) rfl

theorem fits_jpCcOp (cc : Cond) (nn : Word) (s : State) : Fits s (jpCcOp cc nn s) := Fits.ifCond _ _ (by decide) (by decide) rfl

theorem fits_jpHlOp (s : State) : Fits s (jpHlOp s) := Fits.of _ _ (by decide) rfl

theorem fits_jrOp (e : Byte) (s : State) : Fits s (jrOp e s) := Fits.of _ _ (by decide) rfl

theorem fits_jrCcOp (cc : Cond) (e : Byte) (s : State) : Fits s (jrCcOp cc e s) := Fits.ifCond _ _ (by decide) (by decide) rfl

theorem fits_callOp (nn : Word) (s : State) : Fits s (callOp nn s) := Fits.of _ _ (by decide) (by simp [callTo, goto, onCpu])

theorem fits_callCcOp (cc : Cond) (nn : Word) (s : State) : Fits s (callCcOp cc nn s) := Fits.ifCond _ _ (by decide) (by decide) (by simp [callTo, goto, onCpu])

theorem fits_retOp (s : State) : Fits s (retOp s) := Fits.of _ _ (by decide) rfl

theorem fits_retCcOp (cc : Cond) (s : State) : Fits s (retCcOp cc s) := Fits.ifCond _ _ (by decide) (by decide) rfl

theorem fits_retiOp (s : State) : Fits s (retiOp s) := Fits.of _ _ (by decide) rfl

theorem fits_rstOp (t : Oct) (s : State) : Fits s (rstOp t s) := Fits.of _ _ (by decide) (by simp [callTo, goto, onCpu])

theorem fits_rotOp (op : Rot) (x : Opnd8) (s : State) : Fits s (rotOp op x s) := Fits.modifyOp _ _ _ (opCost_le _ (by decide) (by decide))

theorem fits_bitOp (b : Oct) (x : Opnd8) (s : State) : Fits s (bitOp b x s) := Fits.of _ _ (opCost_le _ (by decide) (by decide)) rfl

theorem fits_resOp (b : Oct) (x : Opnd8) (s : State) : Fits s (resOp b x s) := Fits.of _ _ (opCost_le _ (by decide) (by decide)) (setOperand_halted _ _ _)

theorem fits_setOp (b : Oct) (x : Opnd8) (s : State) : Fits s (setOp b x s) := Fits.of _ _ (opCost_le _ (by decide) (by decide)) (setOperand_halted _ _ _)

/-- Every instruction fits. -/
theorem exec_fits (i : Instr) (s t : State) (h : exec i s = .next t) : Fits s t := by
  have e : ∀ u, exec i s = .next u → Fits s u → Fits s t := by
    intro u hu hf
    rw [hu] at h
    injection h with h
    exact h ▸ hf
  cases i <;> refine e _ rfl ?_ <;>
    simp only [fits_doNothing, fits_haltOp, fits_stopOp, fits_diOp, fits_eiOp, fits_ldOp, fits_ldMHlOp, fits_ldImmOp,
      fits_ldAFrom, fits_ldATo, fits_ldAFromHl, fits_ldAToHl, fits_ldABc, fits_ldADe, fits_ldBcA, fits_ldDeA,
      fits_ldhACOp, fits_ldhCAOp, fits_ld16Op, fits_ldMSpOp, fits_ldSpHlOp, fits_ldHlSpOp, fits_pushOp, fits_popOp,
      fits_aluOp, fits_aluOnOp, fits_incOp, fits_decOp, fits_addHlOp, fits_step16Op, fits_addSpOp, fits_rotAOp,
      fits_daaOp, fits_cplOp, fits_scfOp, fits_ccfOp, fits_jpOp, fits_jpCcOp, fits_jpHlOp, fits_jrOp, fits_jrCcOp,
      fits_callOp, fits_callCcOp, fits_retOp, fits_retCcOp, fits_retiOp, fits_rstOp, fits_rotOp, fits_bitOp,
      fits_resOp, fits_setOp, Fits.prefixedOp, Nat.reduceLeDiff]

end Sys2Proof.Laws
end

