-- ==== Sys2Proof/Laws/Units.lean ====
section
/-! SUPPORT. What each unit's clock, the host's turn and a whole tick may change, said once: a frame per unit, the tick as a chain,
and the clocks by their cases. -/

namespace Sys2Proof.Laws

open Sys2Proof.Machine

/-! ### The frames of the units -/

theorem enterVBlank_eq (s : State) :
    enterVBlank s = { s with
      ifReg := (enterVBlank s).ifReg, ppu := (enterVBlank s).ppu, frameDone := (enterVBlank s).frameDone } := by
  simp only [enterVBlank, statEvent_if]; rfl

theorem enterHBlank_eq (s : State) :
    enterHBlank s = { s with ifReg := (enterHBlank s).ifReg, ppu := (enterHBlank s).ppu } := by
  simp only [enterHBlank, statEvent_if]; rfl

theorem lycCompare_eq (s : State) :
    lycCompare s = { s with ifReg := (lycCompare s).ifReg, ppu := (lycCompare s).ppu } := by
  simp only [lycCompare]; split
  · rw [statEvent_if]
  · rfl

theorem drawStep_eq (s : State) : drawStep s = { s with ppu := (drawStep s).ppu } := by
  unfold drawStep; split <;> rfl

theorem transition_eq (s : State) :
    transition s = { s with
      ifReg := (transition s).ifReg, ppu := (transition s).ppu, penalties := (transition s).penalties
      frameDone := (transition s).frameDone } := by
  unfold transition
  split
  · rfl
  · rw [enterHBlank_eq]
  · dsimp only; split
    · rw [enterVBlank_eq]; rfl
    · rw [enterOamScan_eq]; rfl
  · dsimp only; split
    · rw [enterOamScan_eq]; rfl
    · rfl

/-- A clock of the Pixel Unit changes IF, the unit, the penalties still to come and the frame event at most. -/
theorem ppuClock_eq (s : State) :
    ppuClock s = { s with
      ifReg := (ppuClock s).ifReg, ppu := (ppuClock s).ppu, penalties := (ppuClock s).penalties
      frameDone := (ppuClock s).frameDone } := by
  unfold ppuClock
  split
  · rfl
  · dsimp only
    rw [lycCompare_eq]
    split
    · rw [transition_eq, drawStep_eq]; rfl
    · rw [drawStep_eq]; rfl

/-- A clock of the Timer Unit changes IF and the unit at most. -/
theorem timerClock_eq (s : State) :
    timerClock s = { s with ifReg := (timerClock s).ifReg, timer := s.timer.clock } := by
  unfold timerClock; dsimp only; split <;> rfl

theorem dmaCopyByte_eq (s : State) (i : Nat) : dmaCopyByte s i = { s with mem := (dmaCopyByte s i).mem } := rfl

theorem dmaCopyBytes_eq (is : List Nat) (s : State) :
    is.foldl dmaCopyByte s = { s with mem := (is.foldl dmaCopyByte s).mem } := by
  induction is generalizing s with
  | nil => rfl
  | cons i is ih => rw [List.foldl_cons, ih]; rfl

/-- A clock of the DMA Unit changes the stored bytes and the unit at most. -/
theorem dmaClock_eq (s : State) : dmaClock s = { s with mem := (dmaClock s).mem, dma := (dmaClock s).dma } := by
  unfold dmaClock
  split
  · split
    · rw [dmaCopy, dmaCopyBytes_eq]; rfl
    · rfl
  · rfl

/-- The DMA Unit itself counts down while a transfer is in progress (60_exceptions.md R342). -/
theorem dmaClock_dma (s : State) :
    (dmaClock s).dma =
      if s.dma.inProgress then
        { s.dma with remaining := s.dma.remaining - 1, inProgress := decide (s.dma.remaining - 1 ≠ 0) }
      else s.dma := by
  unfold dmaClock
  split
  · split
    · rw [dmaCopy, dmaCopyBytes_eq]; rfl
    · rfl
  · rfl

theorem audioClock_eq (s : State) : audioClock s = { s with audio := (audioClock s).audio } := by
  unfold audioClock; split <;> rfl

/-- The host's turn changes the coming actions, the joypad byte, IF and the frame event at most. -/
theorem hostTurn_eq (s : State) :
    hostTurn s = { s with
      host := s.host.tail, mem := (hostTurn s).mem, ifReg := (hostTurn s).ifReg, frameDone := false } := by
  unfold hostTurn
  cases h : s.host with
  | nil => simp only [List.tail_nil]
  | cons act rest => unfold applyHostAct; dsimp only; cases act.joypByte <;> cases act.serial <;> cases act.joypad <;> rfl

/-- The stored bytes after the host's turn: at most the joypad byte is overwritten (60_exceptions.md R302). -/
theorem hostTurn_mem (s : State) : (hostTurn s).mem = s.mem ∨ ∃ v, (hostTurn s).mem = s.mem.write 0xFF00 v := by
  unfold hostTurn
  cases s.host with
  | nil => exact .inl rfl
  | cons act rest =>
    unfold applyHostAct; dsimp only
    cases act.joypByte <;> cases act.serial <;> cases act.joypad <;> first | exact .inl rfl | exact .inr ⟨_, rfl⟩

@[simp] theorem hostTurn_cpu (s : State) : (hostTurn s).cpu = s.cpu := by rw [hostTurn_eq]
@[simp] theorem hostTurn_ieReg (s : State) : (hostTurn s).ieReg = s.ieReg := by rw [hostTurn_eq]
@[simp] theorem hostTurn_timer (s : State) : (hostTurn s).timer = s.timer := by rw [hostTurn_eq]
@[simp] theorem hostTurn_dma (s : State) : (hostTurn s).dma = s.dma := by rw [hostTurn_eq]
@[simp] theorem hostTurn_ppu (s : State) : (hostTurn s).ppu = s.ppu := by rw [hostTurn_eq]
@[simp] theorem hostTurn_cart (s : State) : (hostTurn s).cart = s.cart := by rw [hostTurn_eq]
@[simp] theorem hostTurn_audio (s : State) : (hostTurn s).audio = s.audio := by rw [hostTurn_eq]
@[simp] theorem hostTurn_penalties (s : State) : (hostTurn s).penalties = s.penalties := by rw [hostTurn_eq]
@[simp] theorem hostTurn_tick (s : State) : (hostTurn s).tick = s.tick := by rw [hostTurn_eq]
@[simp] theorem hostTurn_cfg (s : State) : (hostTurn s).cfg = s.cfg := by rw [hostTurn_eq]

/-! ### The units' turns after the Processor's -/

@[simp] theorem unitsTurn_cpu (s : State) : (unitsTurn s).cpu = s.cpu := by
  unfold unitsTurn; dsimp only; rw [audioClock_eq, dmaClock_eq, timerClock_eq, ppuClock_eq]
@[simp] theorem unitsTurn_ieReg (s : State) : (unitsTurn s).ieReg = s.ieReg := by
  unfold unitsTurn; dsimp only; rw [audioClock_eq, dmaClock_eq, timerClock_eq, ppuClock_eq]
@[simp] theorem unitsTurn_cart (s : State) : (unitsTurn s).cart = s.cart := by
  unfold unitsTurn; dsimp only; rw [audioClock_eq, dmaClock_eq, timerClock_eq, ppuClock_eq]
@[simp] theorem unitsTurn_cfg (s : State) : (unitsTurn s).cfg = s.cfg := by
  unfold unitsTurn; dsimp only; rw [audioClock_eq, dmaClock_eq, timerClock_eq, ppuClock_eq]
@[simp] theorem unitsTurn_host (s : State) : (unitsTurn s).host = s.host := by
  unfold unitsTurn; dsimp only; rw [audioClock_eq, dmaClock_eq, timerClock_eq, ppuClock_eq]
@[simp] theorem unitsTurn_tick (s : State) : (unitsTurn s).tick = s.tick + 1 := by
  unfold unitsTurn; dsimp only; rw [audioClock_eq, dmaClock_eq, timerClock_eq, ppuClock_eq]
theorem unitsTurn_timer (s : State) : (unitsTurn s).timer = s.timer.clock := by
  unfold unitsTurn; dsimp only; rw [audioClock_eq, dmaClock_eq, timerClock_eq, ppuClock_eq]
theorem unitsTurn_ppu (s : State) : (unitsTurn s).ppu = (ppuClock s).ppu := by
  unfold unitsTurn; dsimp only; rw [audioClock_eq, dmaClock_eq, timerClock_eq]
theorem unitsTurn_frameDone (s : State) : (unitsTurn s).frameDone = (ppuClock s).frameDone := by
  unfold unitsTurn; dsimp only; rw [audioClock_eq, dmaClock_eq, timerClock_eq]
theorem unitsTurn_mem (s : State) : (unitsTurn s).mem = (dmaClock (timerClock (ppuClock s))).mem := by
  unfold unitsTurn; dsimp only; rw [audioClock_eq]
theorem unitsTurn_dma (s : State) :
    (unitsTurn s).dma =
      if s.dma.inProgress then
        { s.dma with remaining := s.dma.remaining - 1, inProgress := decide (s.dma.remaining - 1 ≠ 0) }
      else s.dma := by
  have h : (unitsTurn s).dma = (dmaClock (timerClock (ppuClock s))).dma := by
    unfold unitsTurn; dsimp only; rw [audioClock_eq]
  rw [h, dmaClock_dma, timerClock_eq, ppuClock_eq]

/-! ### The Processor's turn and the tick -/

/-- The fetch's own changes of the registers are tame. -/
theorem afterFetch_reaches (s : State) : Reaches s (afterFetch s) := (Reaches.refl s).keep

/-- What a machine-cycle boundary does: it always goes on, and changes the state only as a meaning or an interrupt entry does. -/
theorem mCycleStep_reaches (s : State) : ∃ u, mCycleStep s = .next u ∧ Reaches s u := by
  unfold mCycleStep
  split
  · refine ⟨_, rfl, ?_⟩
    split
    · exact (Reaches.refl s).keep
    · exact Reaches.refl s
  · split
    · exact ⟨_, rfl, (Reaches.refl s).keep⟩
    · split
      · exact ⟨_, rfl, dispatch_reaches s⟩
      · obtain ⟨t, ht, hr⟩ := exec_reaches (fetchedInstr s) (afterFetch s)
        exact ⟨t, ht, (afterFetch_reaches s).trans hr⟩

/-- The Processor's turn: what it reaches, then the phase. -/
theorem cpuTick_reaches (s : State) : ∃ u, cpuTick s = .next (advancePhase u) ∧ Reaches s u := by
  unfold cpuTick
  split
  · obtain ⟨u, hu, hr⟩ := mCycleStep_reaches s
    exact ⟨u, by rw [hu]; rfl, hr⟩
  · exact ⟨s, rfl, Reaches.refl s⟩

/-- A tick: the host's turn, then what the Processor reaches from there, the phase, and the units' turns. -/
theorem step_reaches (s : State) :
    ∃ u, cpuTick (hostTurn s) = .next (advancePhase u) ∧ Reaches (hostTurn s) u ∧
      step s = .next (unitsTurn (advancePhase u)) := by
  obtain ⟨u, hu, hr⟩ := cpuTick_reaches (hostTurn s)
  exact ⟨u, hu, hr, by simp only [step, oneTick, hu]; rfl⟩

/-! What the Processor's ways of changing the state keep. -/

/-- The phase stays (40_engine_system.md R111). -/
theorem Reaches.phase {s t : State} (h : Reaches s t) : t.cpu.phase = s.cpu.phase :=
  h.keeps (P := fun x => x.cpu.phase = s.cpu.phase) (fun _ x hg h => (hg x.cpu).1.trans h)
    (fun a v x h => (congrArg Cpu.phase (wr8_cpu a v x)).trans h) (fun _ h => h) (fun _ _ h => h) rfl

theorem Reaches.cfg {s t : State} (h : Reaches s t) : t.cfg = s.cfg :=
  h.keeps (P := fun x => x.cfg = s.cfg) (fun _ _ _ h => h) (fun a v x h => (wr8_cfg a v x).trans h) (fun _ h => h)
    (fun _ _ h => h) rfl

theorem Reaches.host {s t : State} (h : Reaches s t) : t.host = s.host :=
  h.keeps (P := fun x => x.host = s.host) (fun _ _ _ h => h) (fun a v x h => (wr8_host a v x).trans h) (fun _ h => h)
    (fun _ _ h => h) rfl

theorem Reaches.tick {s t : State} (h : Reaches s t) : t.tick = s.tick :=
  h.keeps (P := fun x => x.tick = s.tick) (fun _ _ _ h => h) (fun a v x h => (wr8_tick a v x).trans h) (fun _ h => h)
    (fun _ _ h => h) rfl

theorem Reaches.penalties {s t : State} (h : Reaches s t) : t.penalties = s.penalties :=
  h.keeps (P := fun x => x.penalties = s.penalties) (fun _ _ _ h => h) (fun a v x h => (wr8_penalties a v x).trans h)
    (fun _ h => h) (fun _ _ h => h) rfl

/-- A property of states that only some fields matter to, and every write of the bus keeps, is kept by what the Processor
reaches. -/
theorem Reaches.keepsBus {P : State → Prop} (cpu : ∀ g s, Tame g → P s → P (onCpu g s)) (write : ∀ a v s, P s → P (rawWrite a v s))
    (timer : ∀ s, P s → P { s with timer := s.timer.resetCounter }) (ack : ∀ i s, P s → P { s with ifReg := clearBit s.ifReg i })
    {s t : State} (h : Reaches s t) : P s → P t :=
  h.keeps cpu (fun a v s hs => (wr8_cases a v s).elim (fun e => e.2.symm ▸ hs) (fun e => e.2.symm ▸ write a v s hs)) timer ack

end Sys2Proof.Laws
end

