-- ==== Sys2Proof/Laws/Clocks.lean ====
section
/-! SUPPORT. The steps of the Timer Unit and of the Pixel Unit in one record each, and what the sprite selector answers. -/

namespace Sys2Proof.Laws

open Sys2Proof.Machine

/-! ### The Timer Unit (60_exceptions.md R322 to R325) -/

/-- The sampled bit, by the select table. -/
theorem sample_eq (t : Timer) :
    t.sample = (t.counter.getLsbD ([9, 3, 5, 7].getD (t.tac.toNat % 4) 0) && t.tac.getLsbD 2) := by
  have h : ∀ v : Byte, selectedBit v = [9, 3, 5, 7].getD (v.toNat % 4) 0 := by decide
  rw [Timer.sample, h]; rfl

/-- The two windows count down, in one record. -/
theorem windows_eq (t : Timer) :
    t.windows = { t with
      postReload := if t.preReload = 1 then 4 else t.postReload - 1
      preReload := t.preReload - 1
      tima := if t.preReload = 1 then t.reloadOverride.getD t.tma else t.tima
      overflowPending := t.overflowPending && !decide (t.preReload = 1)
      reloadOverride := if t.preReload = 1 then none else t.reloadOverride } := by
  unfold Timer.windows; dsimp only
  split
  · rename_i h; simp [h]
  · split
    · rename_i h; simp [h, Timer.reload]
    · rename_i h; simp [h]

/-- The edge, in one record. -/
theorem edge_eq (t : Timer) :
    t.edge = { t with
      delayedBit := t.sample
      tima := if t.delayedBit && !t.sample then t.tima + 1#8 else t.tima
      preReload := if t.delayedBit && !t.sample && decide (t.tima = 0xFF#8) then 4 else t.preReload
      overflowPending := (t.delayedBit && !t.sample && decide (t.tima = 0xFF#8)) || t.overflowPending } := by
  unfold Timer.edge; dsimp only
  generalize (t.delayedBit && !t.sample) = b
  cases b
  · simp
  · by_cases h : t.tima = 0xFF#8 <;> simp [Timer.increment, h]

/-! ### The Pixel Unit (60_exceptions.md R352 to R365) -/

/-- Steps 1 and 2 of a clock, in one record (R352, R360). -/
theorem countDot_drawStep (s : State) :
    countDot (drawStep s) =
      let draws := s.ppu.mode = .drawing ∧ 80 + s.ppu.drawDelay ≤ s.ppu.dotsLine ∧ s.ppu.px < 160
      { s with ppu := { s.ppu with
          fb :=
            if draws then
              s.ppu.fb.write s.ppu.px s.ppu.ly.toNat (shadeRgba s.cfg (pixelShade s.mem s.ppu s.ppu.px s.ppu.ly.toNat))
            else s.ppu.fb
          px := if draws then s.ppu.px + 1 else s.ppu.px
          dotsRemaining := s.ppu.dotsRemaining - 1
          dotsLine := s.ppu.dotsLine + 1 } } := by
  unfold drawStep; dsimp only
  split <;> rfl

/-- A clock with the LCD on: the two steps, the transition of a mode that has run out, the comparison (R352). -/
theorem ppuClock_on {s : State} (h : bit s.ppu.lcdc 7 = true) :
    ppuClock s = lycCompare (if s.ppu.dotsRemaining - 1 = 0 then transition (countDot (drawStep s)) else countDot (drawStep s)) := by
  have hd : (countDot (drawStep s)).ppu.dotsRemaining = s.ppu.dotsRemaining - 1 := by rw [countDot_drawStep]
  simp only [ppuClock, h, hd]
  rfl

/-- A change of mode keeps STAT[7:2] and writes STAT[1:0] (R353). -/
theorem setMode_stat (v : Byte) (m : PpuMode) :
    field ((v &&& 0xFC#8) ||| BitVec.ofNat 8 m.code) 0 2 = m.code ∧
      ((v &&& 0xFC#8) ||| BitVec.ofNat 8 m.code) &&& 0xFC#8 = v &&& 0xFC#8 := by
  cases m <;> revert v <;> decide

/-- The match flag is STAT[2], and the comparison keeps the rest (R365). -/
theorem match_stat (v : Byte) (m : Bool) :
    bit ((v &&& 0xFB#8) ||| (if m then 0x04#8 else 0x00#8)) 2 = m ∧
      ((v &&& 0xFB#8) ||| (if m then 0x04#8 else 0x00#8)) &&& 0xFB#8 = v &&& 0xFB#8 := by
  cases m <;> revert v <;> decide

/-- The match comparison leaves everything but STAT[2], its latch and IF (R365). -/
theorem lycCompare_if (s : State) :
    lycCompare s = { s with
      ifReg :=
        if (decide (s.ppu.ly = s.ppu.lyc) && !s.ppu.lycLatch && bit s.ppu.stat 6) then setBit s.ifReg irqStat else s.ifReg
      ppu := { s.ppu with
        stat := (s.ppu.stat &&& 0xFB#8) ||| (if decide (s.ppu.ly = s.ppu.lyc) then 0x04#8 else 0x00#8)
        lycLatch := decide (s.ppu.ly = s.ppu.lyc) } } := by
  have e : ∀ (v : Byte) (m : Bool), bit ((v &&& 0xFB#8) ||| (if m then 0x04#8 else 0x00#8)) 6 = bit v 6 := by decide
  simp only [lycCompare, statEvent_if, e]
  cases (decide (s.ppu.ly = s.ppu.lyc) && !s.ppu.lycLatch) <;> simp

/-- Insertion keeps the order by X, adds one entry, and puts it first or leaves the first one first. -/
theorem insertByX_sorted (e : Sprite) (l : List Sprite) (h : sortedByX l = true) :
    sortedByX (insertByX e l) = true ∧ (insertByX e l).length = l.length + 1 ∧
      ∀ x r, insertByX e l = x :: r → x = e ∨ ∃ r', l = x :: r' := by
  induction l with
  | nil => exact ⟨rfl, rfl, fun x r h => by cases h; exact .inl rfl⟩
  | cons a l ih =>
    have hl : sortedByX l = true := by
      cases l with
      | nil => rfl
      | cons b l => simp only [sortedByX, Bool.and_eq_true] at h; exact h.2
    obtain ⟨i1, i2, i3⟩ := ih hl
    unfold insertByX
    split
    · rename_i hlt
      refine ⟨?_, rfl, fun x r h => by cases h; exact .inl rfl⟩
      simp only [sortedByX, Bool.and_eq_true]
      exact ⟨by simpa using Nat.le_of_lt hlt, h⟩
    · rename_i hge
      refine ⟨?_, by simp [i2], fun x r h => by cases h; exact .inr ⟨_, rfl⟩⟩
      cases hh : insertByX e l with
      | nil => rfl
      | cons b r =>
        simp only [sortedByX, Bool.and_eq_true]
        rw [hh] at i1
        refine ⟨?_, i1⟩
        rcases i3 b r hh with h' | ⟨r', h'⟩
        · subst h'; simpa using Nat.le_of_not_lt hge
        · subst h'; simp only [sortedByX, Bool.and_eq_true] at h; exact h.1

/-- The stable sort: sorted, and as many entries. -/
theorem stableSortByX_sorted (es : List Sprite) :
    sortedByX (stableSortByX es) = true ∧ (stableSortByX es).length = es.length := by
  have h : ∀ (l acc : List Sprite), sortedByX acc = true →
      sortedByX (l.foldl (fun acc e => insertByX e acc) acc) = true ∧
        (l.foldl (fun acc e => insertByX e acc) acc).length = acc.length + l.length := by
    intro l
    induction l with
    | nil => intro acc h; exact ⟨h, rfl⟩
    | cons e l ih =>
      intro acc h
      obtain ⟨a, b, -⟩ := insertByX_sorted e acc h
      obtain ⟨c, d⟩ := ih _ a
      exact ⟨c, by rw [List.foldl_cons, d, b, List.length_cons]; omega⟩
  obtain ⟨a, b⟩ := h es [] rfl
  exact ⟨a, by rw [stableSortByX, b, List.length_nil, Nat.zero_add]⟩

/-- At most ten sprites a line (R356). -/
theorem scanSprites_length (mem : Memory) (h ly : Nat) : (scanSprites mem h ly).length ≤ 10 := by
  rw [scanSprites, (stableSortByX_sorted _).2, List.length_take]; omega

end Sys2Proof.Laws
end

