-- ==== Sys2Proof/Laws/Memory.lean ====
section
/-! SUPPORT. Every operation that touches stored bytes keeps the canonical form of memory, and reset has it; the frame of a DMA copy. -/

namespace Sys2Proof.Laws

open Sys2Proof.Machine

/-! ### The canonical form -/

theorem reset_mem_wf : State.reset.mem.wf = true := rfl

theorem reset_image_wf : State.reset.cart.image.wf = true := rfl

theorem rawWrite_mem_wf (a : Word) (v : Byte) (s : State) (h : s.mem.wf = true) : (rawWrite a v s).mem.wf = true := by
  unfold rawWrite
  cases ht : target a with
  | audio =>
    simp only [audioWrite]
    split
    · exact h
    · exact memory_wf_write _ _ _ a.isLt h
  | cell k => exact memory_wf_write _ _ _ (target_cell ht).2.2.2 h
  | lcdc => simp only []; rw [writeLcdc_eq]; exact h
  | _ => exact h

theorem wr8_mem_wf (a : Word) (v : Byte) (s : State) (h : s.mem.wf = true) : (wr8 a v s).mem.wf = true := by
  rcases wr8_cases a v s with e | e <;> rw [e.2]
  · exact h
  · exact rawWrite_mem_wf a v s h

theorem wr16_mem_wf (a w : Word) (s : State) (h : s.mem.wf = true) : (wr16 a w s).mem.wf = true :=
  wr8_mem_wf _ _ _ (wr8_mem_wf _ _ _ h)

theorem push16_mem_wf (w : Word) (s : State) (h : s.mem.wf = true) : (push16 w s).mem.wf = true := by
  rw [push16_eq]; exact wr8_mem_wf _ _ _ (wr8_mem_wf _ _ _ h)

/-- Every instruction and every interrupt entry keeps it. -/
theorem Reaches.mem_wf {s t : State} (h : Reaches s t) : s.mem.wf = true → t.mem.wf = true :=
  h.keeps (P := fun x => x.mem.wf = true) (fun _ _ _ h => h) wr8_mem_wf (fun _ h => h) (fun _ _ h => h)

theorem hostTurn_mem_wf (s : State) (h : s.mem.wf = true) : (hostTurn s).mem.wf = true := by
  rcases hostTurn_mem s with e | ⟨v, e⟩ <;> rw [e]
  · exact h
  · exact memory_wf_write _ _ _ (by decide) h

theorem dmaCopyBytes_mem_wf (is : List Nat) (s : State) (hi : ∀ i ∈ is, i < 160) (h : s.mem.wf = true) :
    (is.foldl dmaCopyByte s).mem.wf = true := by
  induction is generalizing s with
  | nil => exact h
  | cons i is ih =>
    have := hi i List.mem_cons_self
    exact ih _ (fun j hj => hi j (List.mem_cons_of_mem i hj)) (memory_wf_write _ _ _ (by omega) h)

theorem dmaCopy_mem_wf (s : State) (h : s.mem.wf = true) : (dmaCopy s).mem.wf = true :=
  dmaCopyBytes_mem_wf (List.range 160) s (fun _ hi => List.mem_range.1 hi) h

theorem dmaClock_mem_wf (s : State) (h : s.mem.wf = true) : (dmaClock s).mem.wf = true := by
  unfold dmaClock
  split
  · split
    · simp only [dmaCount]; exact dmaCopy_mem_wf s h
    · exact h
  · exact h

theorem placeByte_mem_wf (a : Word) (v : Byte) (s : State) (h : s.mem.wf = true) : (placeByte a v s).mem.wf = true := by
  unfold placeByte
  cases ht : target a with
  | cell k => exact memory_wf_write _ _ _ (target_cell ht).2.2.2 h
  | _ => exact h

/-! ### The frame of a DMA copy -/

/-- The copy writes OAM and nothing else (60_exceptions.md R342). -/
theorem dmaCopyBytes_mem_read (is : List Nat) (s : State) (hi : ∀ i ∈ is, i < 160) {k : Nat} (hk : k < 0xFE00 ∨ 0xFE9F < k) :
    (is.foldl dmaCopyByte s).mem.read k = s.mem.read k := by
  induction is generalizing s with
  | nil => rfl
  | cons i is ih =>
    have := hi i List.mem_cons_self
    rw [List.foldl_cons, ih _ (fun j hj => hi j (List.mem_cons_of_mem i hj))]
    simp only [dmaCopyByte]
    rw [memory_read_write, if_neg (by omega)]

/-! ### Reset -/

/-- The sprite list at reset is the scan of the reset OAM (60_exceptions.md R356). -/
theorem reset_sprites_is_the_scan : State.reset.ppu.sprites = scanSprites State.reset.mem 8 0 := by decide

end Sys2Proof.Laws
end

