-- ==== Sys2Proof/Laws/Run.lean ====
section
/-! SUPPORT. Runs of the machine: a run by its first tick, by its last tick, and as an induction. -/

namespace Sys2Proof.Laws

open Sys2Proof.Machine

@[simp] theorem run_zero (s : State) : core.run 0 s = .next s := rfl

/-- A run by its first tick. -/
theorem run_succ {s t : State} (h : step s = .next t) (k : Nat) : core.run (k + 1) s = core.run k t := by
  have e : core.step s = .next t := h
  simp only [Host.Core.run, e]

/-- A run by its last tick. -/
theorem run_snoc {s t u : State} {k : Nat} (h : core.run k s = .next t) (hu : step t = .next u) :
    core.run (k + 1) s = .next u := by
  induction k generalizing s with
  | zero =>
    rw [run_zero] at h
    injection h with h
    subst h
    rw [run_succ hu, run_zero]
  | succ k ih =>
    obtain ⟨v, -, -, hv⟩ := step_reaches s
    rw [run_succ hv] at h ⊢
    exact ih h

/-- What holds of a state and is kept by every tick holds after every number of ticks, which always complete. -/
theorem run_keeps {P : State → Prop} (hstep : ∀ s t, P s → step s = .next t → P t) (n : Nat) (s : State) (hs : P s) :
    ∃ t : State, core.run n s = .next t ∧ P t := by
  induction n with
  | zero => exact ⟨s, rfl, hs⟩
  | succ n ih =>
    obtain ⟨t, ht, hp⟩ := ih
    obtain ⟨v, -, -, hv⟩ := step_reaches t
    exact ⟨_, run_snoc ht hv, hstep _ _ hp hv⟩

end Sys2Proof.Laws
end

