-- ==== Sys2Proof/Tests/Slice0.lean ====
section
/-! SUPPORT. The author's own tests: the well-formedness smoke, words of the opcode maps written out from the spec's encodings, one
step on small states with results from the spec's vectors (95_test_vectors.md), and for every statement with hypotheses a concrete
state and operands that meet them. -/

namespace Sys2Proof.Tests

open Sys2Proof.Machine Sys2Proof.Claims Sys2Proof.Laws

/-! ### Well-formedness: the bare prefix is refused, everything else is accepted (30_encoding.md R97, R103) -/

theorem test_wf_refuses_the_bare_prefix : (Instr.prefixCb 0x37#8).wf = false := by decide

theorem test_wf_refuses_the_bare_prefix_before_a_prefix_byte : (Instr.prefixCb 0xCB#8).wf = false := by decide

theorem test_wf_accepts_the_undefined_bytes : (undefRow .d3).wf = true ∧ (undefRow .fd).wf = true := by decide

/-! ### Words written out bit by bit from 30_encoding.md R91 to R96, one or more for every family -/

/-- R95: the system rows, `00 000 000`, `01 110 110`, `00 010 000` with its second byte, `11 110 011`, `11 111 011`. -/
theorem test_decode_system :
    decode [0b00000000#8] = .ok (.nop, []) ∧ decode [0b01110110#8] = .ok (.halt, []) ∧
      decode [0b00010000#8, 0x00#8] = .ok (.stop 0x00#8, []) ∧ decode [0b11110011#8] = .ok (.di, []) ∧
      decode [0b11111011#8] = .ok (.ei, []) ∧ decode [0b11010011#8] = .ok (.undefD3, []) := by decide

/-- R91: `LD r,r'` is `01 ddd sss`, `LD r,n` is `00 ddd 110 n`, register codes B 0 … L 5, (HL) 6, A 7. -/
theorem test_decode_load8 :
    decode [0b01000111#8] = .ok (.ldBA, []) ∧ decode [0b01011110#8] = .ok (.ldEMHl, []) ∧
      decode [0b01110101#8] = .ok (.ldMHlL, []) ∧ decode [0b00001110#8, 0x9C#8] = .ok (.ldCN 0x9C#8, []) ∧
      decode [0b11111010#8, 0x0F#8, 0xFF#8] = .ok (.ldAMNn 0xFF0F#16, []) ∧
      decode [0b11100000#8, 0x41#8] = .ok (.ldhMNA 0x41#8, []) := by decide

/-- R93: a word operand is stored low byte first. -/
theorem test_decode_load16 :
    decode [0b00110001#8, 0xFE#8, 0xFF#8] = .ok (.ldSpNn 0xFFFE#16, []) ∧
      decode [0b00001000#8, 0x00#8, 0xC1#8] = .ok (.ldMNnSp 0xC100#16, []) ∧ decode [0b11110101#8] = .ok (.pushAf, []) ∧
      decode [0b11010001#8] = .ok (.popDe, []) ∧ decode [0b11111000#8, 0x80#8] = .ok (.ldHlSpE 0x80#8, []) := by decide

/-- R91: `10 ooo sss`, operations ADD 0, ADC 1, SUB 2, SBC 3, AND 4, XOR 5, OR 6, CP 7. -/
theorem test_decode_alu8 :
    decode [0b10001011#8] = .ok (.adcAE, []) ∧ decode [0b10010110#8] = .ok (.subMHl, []) ∧
      decode [0b10101111#8] = .ok (.xorA, []) ∧ decode [0b11111110#8, 0x3C#8] = .ok (.cpN 0x3C#8, []) ∧
      decode [0b00110100#8] = .ok (.incMHl, []) ∧ decode [0b00001101#8] = .ok (.decC, []) := by decide

theorem test_decode_alu16_and_accumulator :
    decode [0b00101001#8] = .ok (.addHlHl, []) ∧ decode [0b00010011#8] = .ok (.incDe, []) ∧
      decode [0b11101000#8, 0x02#8] = .ok (.addSpRel 0x02#8, []) ∧ decode [0b00011111#8] = .ok (.rra, []) ∧
      decode [0b00100111#8] = .ok (.daa, []) := by decide

theorem test_decode_control :
    decode [0b11001010#8, 0x00#8, 0x80#8] = .ok (.jpZNn 0x8000#16, []) ∧
      decode [0b00100000#8, 0xFC#8] = .ok (.jrNzRel 0xFC#8, []) ∧
      decode [0b11000100#8, 0x34#8, 0x12#8] = .ok (.callNzNn 0x1234#16, []) ∧ decode [0b11011000#8] = .ok (.retC, []) ∧
      decode [0b11011001#8] = .ok (.reti, []) ∧ decode [0b11101111#8] = .ok (rstRow .o5, []) := by decide

/-- R96: the second byte of a prefixed instruction: `00 ooo sss`, `01 bbb sss`, `10 bbb sss`, `11 bbb sss`. -/
theorem test_decode_prefixed :
    decode [0xCB#8, 0b00001001#8] = .ok (.rrcC, []) ∧ decode [0xCB#8, 0b00110111#8] = .ok (.swapA, []) ∧
      decode [0xCB#8, 0b01100101#8] = .ok (.bit4L, []) ∧ decode [0xCB#8, 0b10011110#8] = .ok (.res3MHl, []) ∧
      decode [0xCB#8, 0b11011111#8] = .ok (.set3A, []) := by decide

theorem test_decode_names_what_is_missing :
    decode [] = .error .noBytes ∧ decode [0xC3#8, 0x50#8] = .error .truncated ∧ decode [0xCB#8] = .error .truncated := by
  decide

/-- R103: the table numbers a `CB_OP` row's bits as `byte0 :: byte1`. -/
theorem test_decode_table_words :
    decodeTableWord 8 0x76 = some .halt ∧ decodeTableWord 16 0xCB37 = some .swapA ∧ decodeTableWord 8 0xC3 = some (.jpNn 0) ∧
      decodeTableWord 16 0x0010 = some (.stop 0x00#8) := by decide

/-! ### One step -/

/-- The Processor of the spec's vectors: every register 0, SP 0xDFF0, PC 0xC000. -/
def cpu0 : Cpu :=
  { Cpu.reset with a := 0, f := 0, b := 0, c := 0, d := 0, e := 0, h := 0, l := 0, sp := 0xDFF0#16, pc := 0xC000#16 }

/-- The machine after reset with this Processor and these bytes. -/
def here (k : Cpu) (cells : List Host.Cell) : State :=
  { State.reset with cpu := k, mem := cells.foldl (fun m c => m.write c.1 c.2) [] }

/-- After one tick. -/
def ticked (s : State) : State := match step s with | .next t => t | .fault _ => s | .refused _ => s

/-- 2.1, R149: `FA 0F FF` reads IF with bits 7:5 set. -/
theorem test_ld_a_nn_reads_if :
    let t := ticked { here cpu0 [(0xC000, 0xFA#8), (0xC001, 0x0F#8), (0xC002, 0xFF#8)] with ifReg := 0x01#8 }
    t.cpu.a = 0xE1#8 ∧ t.cpu.pc = 0xC003#16 ∧ t.cpu.busy = 3 := by decide

/-- 2.1, R150: `EA 44 FF`, a store to LY, is dropped. -/
theorem test_ld_nn_a_drops_a_store_to_ly :
    let t := ticked (here { cpu0 with a := 0x55#8 } [(0xC000, 0xEA#8), (0xC001, 0x44#8), (0xC002, 0xFF#8)])
    rawRead t 0xFF44#16 = 0x00#8 ∧ t.cpu.pc = 0xC003#16 ∧ t.cpu.busy = 3 := by decide

/-- 2.1, R154: a store to STAT keeps its low three bits. -/
theorem test_ldh_n_a_keeps_stat_low_bits :
    let t := ticked (here { cpu0 with a := 0xFF#8 } [(0xC000, 0xE0#8), (0xC001, 0x41#8)])
    rawRead t 0xFF41#16 = 0xFE#8 := by decide

/-- 2.1, R155: `22` with HL = 0xFFFF stores into IE and wraps HL. -/
theorem test_ld_hl_inc_a_wraps :
    let t := ticked (here { cpu0 with a := 0x1F#8, h := 0xFF#8, l := 0xFF#8 } [(0xC000, 0x22#8)])
    t.ieReg = 0x1F#8 ∧ t.cpu.hl = 0x0000#16 ∧ t.cpu.busy = 1 := by decide

/-- 2.1, R158: `3A` with HL = 0x0000 reads the cartridge and wraps HL to 0xFFFF. -/
theorem test_ld_a_hl_dec_wraps :
    let t := ticked (here { cpu0 with a := 0x77#8 } [(0xC000, 0x3A#8)])
    t.cpu.a = 0x00#8 ∧ t.cpu.hl = 0xFFFF#16 := by decide

/-- 2.1, R143: a store through the echo lands in work RAM. -/
theorem test_store_through_the_echo :
    let t := ticked (here { cpu0 with h := 0xE0#8, l := 0x10#8, b := 0xAB#8 } [(0xC000, 0x70#8)])
    rawRead t 0xC010#16 = 0xAB#8 ∧ rawRead t 0xE010#16 = 0xAB#8 := by decide

/-- 2.2, R171: `08 FF FF` writes IE, its high byte goes to ROM and is dropped. -/
theorem test_ld_nn_sp_wraps :
    let t := ticked (here { cpu0 with sp := 0x1234#16 } [(0xC000, 0x08#8), (0xC001, 0xFF#8), (0xC002, 0xFF#8)])
    t.ieReg = 0x34#8 ∧ rawRead t 0x0000#16 = 0x00#8 ∧ t.cpu.busy = 4 := by decide

/-- 2.2, R173: H and C come from the unsigned low bytes. -/
theorem test_ld_hl_sp_e :
    let t := ticked (here { cpu0 with sp := 0xFFFF#16 } [(0xC000, 0xF8#8), (0xC001, 0x01#8)])
    t.cpu.hl = 0x0000#16 ∧ t.cpu.f = 0x30#8 ∧ t.cpu.busy = 2 := by decide

/-- 2.2, R174. -/
theorem test_push_af :
    let t := ticked (here { cpu0 with a := 0x12#8, f := 0xF0#8, sp := 0xD000#16 } [(0xC000, 0xF5#8)])
    rawRead t 0xCFFE#16 = 0xF0#8 ∧ rawRead t 0xCFFF#16 = 0x12#8 ∧ t.cpu.sp = 0xCFFE#16 ∧ t.cpu.busy = 3 := by decide

/-- 2.2, R175: `F1` clears F[3:0]. -/
theorem test_pop_af_clears_the_low_nibble :
    let t := ticked (here { cpu0 with sp := 0xC100#16 } [(0xC000, 0xF1#8), (0xC100, 0xFF#8), (0xC101, 0x12#8)])
    t.cpu.a = 0x12#8 ∧ t.cpu.f = 0xF0#8 ∧ t.cpu.sp = 0xC102#16 ∧ t.cpu.busy = 2 := by decide

/-- 2.3, R181. -/
theorem test_add_a_b_wraps :
    let t := ticked (here { cpu0 with a := 0x3A#8, b := 0xC6#8 } [(0xC000, 0x80#8)])
    t.cpu.a = 0x00#8 ∧ t.cpu.f = 0xB0#8 ∧ t.cpu.busy = 0 := by decide

/-- 2.3, R184. -/
theorem test_adc_a_b_carry_only :
    let t := ticked (here { cpu0 with a := 0xFF#8, f := 0x10#8 } [(0xC000, 0x88#8)])
    t.cpu.a = 0x00#8 ∧ t.cpu.f = 0xB0#8 := by decide

/-- 2.3, R192: the borrow is compared before narrowing. -/
theorem test_sbc_a_n_full_borrow :
    let t := ticked (here { cpu0 with f := 0x10#8 } [(0xC000, 0xDE#8), (0xC001, 0xFF#8)])
    t.cpu.a = 0x00#8 ∧ t.cpu.f = 0xF0#8 := by decide

/-- 2.3, R194. -/
theorem test_and_hl_zero :
    let t := ticked (here { cpu0 with a := 0x5A#8, h := 0xC1#8 } [(0xC000, 0xA6#8)])
    t.cpu.a = 0x00#8 ∧ t.cpu.f = 0xA0#8 ∧ t.cpu.busy = 1 := by decide

/-- 2.3, R203. -/
theorem test_cp_hl_borrow :
    let t := ticked (here { cpu0 with a := 0x3C#8, h := 0xC1#8 } [(0xC000, 0xBE#8), (0xC100, 0x40#8)])
    t.cpu.a = 0x3C#8 ∧ t.cpu.f = 0x50#8 := by decide

/-- 2.3, R208. -/
theorem test_dec_hl_wraps :
    let t := ticked (here { cpu0 with h := 0xC1#8 } [(0xC000, 0x35#8)])
    rawRead t 0xC100#16 = 0xFF#8 ∧ t.cpu.f = 0x60#8 ∧ t.cpu.busy = 2 := by decide

/-- 2.4, R220. -/
theorem test_add_hl_hl :
    let t := ticked (here { cpu0 with h := 0x8A#8, l := 0x23#8 } [(0xC000, 0x29#8)])
    t.cpu.hl = 0x1446#16 ∧ t.cpu.f = 0x30#8 ∧ t.cpu.busy = 1 := by decide

/-- 2.4, R223. -/
theorem test_add_sp_minus_one :
    let t := ticked (here { cpu0 with sp := 0x0001#16, f := 0x80#8 } [(0xC000, 0xE8#8), (0xC001, 0xFF#8)])
    t.cpu.sp = 0x0000#16 ∧ t.cpu.f = 0x30#8 ∧ t.cpu.busy = 3 := by decide

/-- 2.5, R230: RLCA clears Z. -/
theorem test_rlca_zero :
    let t := ticked (here { cpu0 with f := 0xF0#8 } [(0xC000, 0x07#8)])
    t.cpu.a = 0x00#8 ∧ t.cpu.f = 0x00#8 := by decide

/-- 2.5, R234. -/
theorem test_daa_after_a_subtraction :
    let t := ticked (here { cpu0 with f := 0x70#8 } [(0xC000, 0x27#8)])
    t.cpu.a = 0x9A#8 ∧ t.cpu.f = 0x50#8 := by decide

/-- 2.5, R237. -/
theorem test_ccf :
    let t := ticked (here { cpu0 with f := 0xF0#8 } [(0xC000, 0x3F#8)])
    t.cpu.f = 0x80#8 := by decide

/-- 2.6, R244. -/
theorem test_jr_nz_back :
    let t := ticked (here cpu0 [(0xC000, 0x20#8), (0xC001, 0xFC#8)])
    t.cpu.pc = 0xBFFE#16 ∧ t.cpu.busy = 2 := by decide

/-- 2.6, R248: untaken, nothing is popped. -/
theorem test_ret_c_untaken :
    let t := ticked (here { cpu0 with sp := 0xC100#16 } [(0xC000, 0xD8#8)])
    t.cpu.pc = 0xC001#16 ∧ t.cpu.sp = 0xC100#16 ∧ t.cpu.busy = 1 := by decide

/-- 2.6, R249. -/
theorem test_reti :
    let t := ticked (here { cpu0 with sp := 0xC100#16 } [(0xC000, 0xD9#8), (0xC100, 0x03#8), (0xC101, 0x80#8)])
    t.cpu.pc = 0x8003#16 ∧ t.cpu.ime = true ∧ t.cpu.sp = 0xC102#16 ∧ t.cpu.busy = 3 := by decide

/-- 2.6, R250. -/
theorem test_rst_38 :
    let t := ticked (here { cpu0 with sp := 0xD000#16 } [(0xC000, 0xFF#8)])
    t.cpu.pc = 0x0038#16 ∧ rawRead t 0xCFFE#16 = 0x01#8 ∧ rawRead t 0xCFFF#16 = 0xC0#8 ∧ t.cpu.busy = 3 := by decide

/-- 2.7, R267. -/
theorem test_rr_b_carry_in :
    let t := ticked (here { cpu0 with f := 0x10#8 } [(0xC000, 0xCB#8), (0xC001, 0x18#8)])
    t.cpu.b = 0x80#8 ∧ t.cpu.f = 0x00#8 ∧ t.cpu.busy = 1 := by decide

/-- 2.7, R272. -/
theorem test_sra_hl :
    let t := ticked (here { cpu0 with h := 0xC1#8 } [(0xC000, 0xCB#8), (0xC001, 0x2E#8), (0xC100, 0x01#8)])
    rawRead t 0xC100#16 = 0x00#8 ∧ t.cpu.f = 0x90#8 ∧ t.cpu.busy = 3 := by decide

/-- 2.8, R281. -/
theorem test_bit_1_hl :
    let t := ticked (here { cpu0 with h := 0xC1#8 } [(0xC000, 0xCB#8), (0xC001, 0x4E#8), (0xC100, 0xFE#8)])
    t.cpu.f = 0x20#8 ∧ t.cpu.busy = 2 := by decide

/-- 2.8, R283: RES 2 on IF reads the three fixed 1 bits and stores them. -/
theorem test_res_2_if :
    let t := ticked { here { cpu0 with h := 0xFF#8, l := 0x0F#8 } [(0xC000, 0xCB#8), (0xC001, 0x96#8)] with ifReg := 0x05#8 }
    t.ifReg = 0xE1#8 ∧ t.cpu.busy = 3 := by decide

/-- 2.9, R125. -/
theorem test_undefined_byte_runs :
    let t := ticked (here { cpu0 with f := 0xF0#8 } [(0xC000, 0xFD#8)])
    t.cpu.f = 0xF0#8 ∧ t.cpu.pc = 0xC001#16 ∧ t.cpu.busy = 0 := by decide

/-- 2.9 V2, boundary 8: under the HALT quirk the opcode byte is also the operand byte (R115). -/
theorem test_halt_quirk_reads_the_opcode_as_operand :
    let t := ticked (here { cpu0 with pc := 0xC001#16, haltBug := true } [(0xC001, 0x3E#8), (0xC002, 0x14#8)])
    t.cpu.a = 0x3E#8 ∧ t.cpu.pc = 0xC002#16 ∧ t.cpu.haltBug = false := by decide

/-- 2.9 V3, boundary 4: the fetch after EI makes the enable. -/
theorem test_ei_takes_effect_at_the_next_fetch :
    let t := ticked { here { cpu0 with imeSched := true } [] with ieReg := 0x01#8, ifReg := 0x01#8 }
    t.cpu.ime = true ∧ t.cpu.imeSched = false ∧ t.cpu.pc = 0xC001#16 ∧ t.ifReg = 0x01#8 := by decide

/-- 2.9 V6, row 1. -/
theorem test_dispatch_takes_the_lowest_source :
    let t := ticked { here { cpu0 with ime := true, sp := 0xFFFE#16 } [] with ieReg := 0x05#8, ifReg := 0x05#8 }
    t.cpu.pc = 0x0040#16 ∧ t.ifReg = 0x04#8 ∧ t.cpu.ime = false ∧ rawRead t 0xFFFD#16 = 0xC0#8 ∧ t.cpu.busy = 4 := by decide

/-- 2.9 V7: the push overwrites IE and nothing is left to take. -/
theorem test_dispatch_cancelled_by_its_own_push :
    let t := ticked { here { cpu0 with ime := true, pc := 0xC150#16, sp := 0x0000#16 } [] with ieReg := 0x04#8, ifReg := 0x04#8 }
    t.cpu.pc = 0x0000#16 ∧ t.ifReg = 0x04#8 ∧ t.ieReg = 0xC1#8 ∧ t.cpu.sp = 0xFFFE#16 := by decide

/-- 2.10: STOP resets the counter, its edge counts at once, and the clock of the same tick follows. -/
theorem test_stop_resets_the_counter :
    let s := here cpu0 [(0xC000, 0x10#8)]
    let t := ticked { s with timer := { s.timer with counter := 0x1238#16, delayedBit := true, tac := 0x05#8, tima := 0x10#8 } }
    t.timer.counter = 0x0001#16 ∧ t.timer.tima = 0x11#8 ∧ t.cpu.pc = 0xC002#16 := by decide

/-- 2.10, the clock of tick 7: the reload and the request. -/
theorem test_timer_reload :
    let s := here { cpu0 with phase := 3 } []
    let t := ticked { s with timer :=
      { s.timer with
        counter := 0x0013#16, tac := 0x05#8, tima := 0x00#8, tma := 0x23#8, preReload := 1, overflowPending := true } }
    t.timer.tima = 0x23#8 ∧ t.ifReg = 0x04#8 ∧ t.timer.postReload = 4 ∧ t.timer.preReload = 0 := by decide

set_option maxRecDepth 20000 in
/-- 2.11: a store to 0xFF46 starts the transfer; the DMA clock of the same tick counts. -/
theorem test_dma_starts :
    let t := ticked (here { cpu0 with pc := 0xFF80#16, a := 0xFE#8 } [(0xFF80, 0xE0#8), (0xFF81, 0x46#8), (0xFE01, 0x77#8)])
    t.dma = ⟨0xFE#8, true, 639⟩ ∧ t.mem.read 0xFE01 = 0x77#8 ∧ rd8 t 0xC000#16 = 0xFF#8 := by decide

/-- 2.11: a fetch during the block reads 0xFF, that is RST 0x38, whose pushes are discarded (R344). -/
theorem test_fetch_during_the_block :
    let s := here cpu0 []
    let t := ticked { s with dma := ⟨0xC1#8, true, 100⟩ }
    t.cpu.pc = 0x0038#16 ∧ t.cpu.sp = 0xDFEE#16 ∧ t.mem = [] := by decide

/-- E6: equal X, ties in OAM order. -/
theorem test_sprite_order :
    scanSprites
      ([(0xFE04, 16#8), (0xFE05, 60#8), (0xFE06, 0xCC#8), (0xFE0C, 16#8), (0xFE0D, 50#8), (0xFE0E, 0xAA#8), (0xFE1C, 16#8),
        (0xFE1D, 50#8), (0xFE1E, 0xBB#8)] : Memory) 8 0 =
      [⟨16#8, 50#8, 0xAA#8, 0⟩, ⟨16#8, 50#8, 0xBB#8, 0⟩, ⟨16#8, 60#8, 0xCC#8, 0⟩] := by decide

/-- `withFetchWord` makes the next step run the word's instruction, from reset. -/
theorem test_with_fetch_word :
    (ticked (State.reset.withFetchWord 16 0xCB37)).cpu.a = 0x10#8 ∧ (ticked (State.reset.withFetchWord 8 0x3C)).cpu.a = 0x02#8 := by
  decide

/-! ### Witnesses: states and operands that meet the hypotheses of the statements -/

/-- StopResetsTheTimerCounter: the addresses its last clause is about. -/
theorem witness_stop_resets_the_timer_counter :
    (∃ t, exec (.stop 0x00#8) State.reset = .next t) ∧ 0xFF03#16 ≠ 0xFF04#16 ∧ 0xFF03#16 ≠ 0xFF05#16 ∧
      0xFF06#16 ≠ 0xFF04#16 ∧ 0xFF06#16 ≠ 0xFF05#16 := ⟨⟨_, rfl⟩, by decide, by decide, by decide, by decide⟩

/-- The frames of the storing statements and StoreLeavesOtherBytes: a byte out of reach on either side of the stored one. -/
theorem witness_out_of_reach :
    ¬ storeReach State.reset 0xC100#16 0xC0FF#16 ∧ ¬ storeReach State.reset 0xC100#16 0xC101#16 ∧
      ¬ storeReach State.reset 0xFF40#16 0xFF42#16 ∧ ¬ storeReach State.reset 0xFF04#16 0xFF06#16 ∧
      ¬ storeReach2 State.reset 0xC100#16 0x00#8 0xC101#16 0xC102#16 ∧ ¬ pushReach 0x0000#16 State.reset 0xFFFE#16 := by
  refine ⟨?_, ?_, ?_, ?_, ?_, ?_⟩
  iterate 5 simp [storeReach, storeReach2, inCart, inAudio, State.reset]
  have h1 : State.reset.cpu.sp - 1#16 = 0xFFFD#16 := by decide
  have h2 : State.reset.cpu.sp - 2#16 = 0xFFFC#16 := by decide
  simp [pushReach, storeReach2, storeReach, inCart, inAudio, h1, h2]

/-- DecimalAdjustMakesDecimalArithmetic: the largest digits, through both instructions. -/
theorem witness_decimal_adjust :
    isBcd 0x99#8 ∧ isBcd 0x00#8 ∧ isBcd (here { cpu0 with a := 0x99#8 } []).cpu.a ∧
      (∃ t u, exec (aluImmRow .add 0x99#8) (here { cpu0 with a := 0x99#8 } []) = .next t ∧ exec .daa t = .next u) ∧
      ∃ t u, exec (aluImmRow .sub 0x99#8) (here { cpu0 with a := 0x00#8 } []) = .next t ∧ exec .daa t = .next u :=
  ⟨by unfold isBcd; decide, by unfold isBcd; decide, by unfold isBcd; decide, ⟨_, _, rfl, rfl⟩, ⟨_, _, rfl, rfl⟩⟩

/-- Jumps, CallsAndRestarts, Returns: each condition true and false. -/
theorem witness_conditions :
    ({ cpu0 with f := 0x00#8 } : Cpu).cond .nz = true ∧ ({ cpu0 with f := 0x80#8 } : Cpu).cond .nz = false ∧
      ({ cpu0 with f := 0x80#8 } : Cpu).cond .z = true ∧ ({ cpu0 with f := 0x00#8 } : Cpu).cond .z = false ∧
      ({ cpu0 with f := 0x00#8 } : Cpu).cond .nc = true ∧ ({ cpu0 with f := 0x10#8 } : Cpu).cond .nc = false ∧
      ({ cpu0 with f := 0x10#8 } : Cpu).cond .c = true ∧ ({ cpu0 with f := 0x00#8 } : Cpu).cond .c = false := by decide

/-- PrefixedRotates, PrefixedShiftsAndSwap. -/
theorem witness_rotate_kinds :
    (Rot.rlc = .rlc ∨ Rot.rlc = .rrc ∨ Rot.rlc = .rl ∨ Rot.rlc = .rr) ∧
      (Rot.srl = .sla ∨ Rot.srl = .sra ∨ Rot.srl = .swap ∨ Rot.srl = .srl) := by decide

/-- DecodeOfEncodeIsTheInstruction, EveryByteStringHasOneReading. -/
theorem witness_well_formed :
    (Instr.jpNn 0xFFFF#16).wf = true ∧ Instr.swapA.wf = true ∧ encode .swapA ++ [0x00#8] = [0xCB#8, 0x37#8, 0x00#8] := by decide

/-- StepRunsTheDecodedInstruction: without and with the HALT quirk. -/
theorem witness_step_runs :
    (let s := here cpu0 [(0xC000, 0x3E#8), (0xC001, 0x14#8)]
     s.cpu.phase = 0 ∧ s.cpu.halted = false ∧ s.cpu.busy = 0 ∧ ((hostTurn s).cpu.ime = false ∨ (hostTurn s).ieReg &&& (hostTurn s).ifReg &&& 0x1F#8 = 0#8) ∧
       decode [rd8 (hostTurn s) 0xC000#16, rd8 (hostTurn s) 0xC001#16, rd8 (hostTurn s) 0xC002#16] =
         .ok (.ldAN 0x14#8, [0x00#8])) ∧
    (let s := here { cpu0 with haltBug := true } [(0xC000, 0x3E#8), (0xC001, 0x14#8)]
     s.cpu.phase = 0 ∧ s.cpu.halted = false ∧ s.cpu.busy = 0 ∧ ((hostTurn s).cpu.ime = false ∨ (hostTurn s).ieReg &&& (hostTurn s).ifReg &&& 0x1F#8 = 0#8) ∧
       decode [rd8 (hostTurn s) 0xC000#16, rd8 (hostTurn s) 0xC000#16, rd8 (hostTurn s) 0xC001#16] =
         .ok (.ldAN 0x3E#8, [0x14#8])) := by decide

/-- TickOrderAndTheHost: no action left, and an action of each kind. -/
theorem witness_host :
    State.reset.audio.external = false ∧ State.reset.host = [] ∧
      ({ State.reset with host := [⟨true, true, some 0xFF#8⟩, ⟨false, false, none⟩] } : State).host =
        ⟨true, true, some 0xFF#8⟩ :: [⟨false, false, none⟩] := by decide

/-- BoundariesWithoutAnInstruction: its five cases. -/
theorem witness_boundaries :
    (let s := here { cpu0 with phase := 3 } []; s.cpu.phase ≠ 0) ∧
    (let s := here { cpu0 with halted := true } []
     s.cpu.phase = 0 ∧ s.cpu.halted = true ∧ s.ieReg &&& s.ifReg &&& 0x1F#8 = 0#8) ∧
    (let s := { here { cpu0 with halted := true } [] with ieReg := 0x10#8, ifReg := 0x10#8 }
     s.cpu.phase = 0 ∧ s.cpu.halted = true ∧ s.ieReg &&& s.ifReg &&& 0x1F#8 ≠ 0#8) ∧
    (let s := here { cpu0 with busy := 5 } []; s.cpu.phase = 0 ∧ s.cpu.halted = false ∧ s.cpu.busy ≠ 0) ∧
    (let s := { here { cpu0 with ime := true } [] with ieReg := 0x01#8, ifReg := 0x01#8 }
     s.cpu.phase = 0 ∧ s.cpu.halted = false ∧ s.cpu.busy = 0 ∧ s.cpu.ime = true ∧
       s.ieReg &&& s.ifReg &&& 0x1F#8 ≠ 0#8) := by decide

/-- CostIsFourTicksAMachineCycle: a boundary whose instruction does not halt, at the longest cost. -/
theorem witness_cost :
    let s := here cpu0 [(0xC000, 0xCD#8)]
    s.cpu.phase = 0 ∧ s.cpu.halted = false ∧ s.cpu.busy = 0 ∧ step s = .next (ticked s) ∧ (ticked s).cpu.halted = false ∧
      (ticked s).cpu.busy = 5 := by
  refine ⟨by decide, by decide, by decide, ?_, by decide, by decide⟩
  obtain ⟨u, -, -, h⟩ := step_reaches (here cpu0 [(0xC000, 0xCD#8)])
  rw [ticked, h]

/-- StoppedProcessorNeverRunsAgain, with the addresses it is about at their bounds. -/
theorem witness_stopped :
    (let s := { here { cpu0 with halted := true } [] with ieReg := 0xE0#8 }
     s.cpu.halted = true ∧ s.ieReg &&& 0x1F#8 = 0#8) ∧
    (plain 0x8000#16 ∧ plain 0x9FFF#16 ∧ plain 0xC000#16 ∧ plain 0xFDFF#16 ∧ plain 0xFEA0#16 ∧ plain 0xFEFF#16 ∧
      plain 0xFF80#16 ∧ plain 0xFFFE#16) ∧ ¬ plain 0xFF00#16 ∧ ¬ plain 0xFFFF#16 := by
  refine ⟨by decide, ?_, ?_, ?_⟩ <;> simp [plain]

/-- InterruptEntry: every source as the lowest one left by the pushes, and none left. -/
theorem witness_interrupt_entry :
    (∀ i, i < 5 →
      let s := { here { cpu0 with ime := true } [] with ieReg := 0x1F#8, ifReg := 0xFF#8 <<< i }
      let q := (pushed s.cpu.pc s).ieReg &&& (pushed s.cpu.pc s).ifReg &&& 0x1F#8
      q ≠ 0#8 ∧ q.getLsbD i = true ∧ ∀ j, j < i → q.getLsbD j = false) ∧
    (let s := { here { cpu0 with pc := 0xC150#16, sp := 0x0000#16 } [] with ieReg := 0x04#8, ifReg := 0x04#8 }
     (pushed s.cpu.pc s).ieReg &&& (pushed s.cpu.pc s).ifReg &&& 0x1F#8 = 0#8) := by decide

/-- StackRoundTrips: a stack at the top of HRAM and one in work RAM. -/
theorem witness_stack :
    (plain (State.reset.cpu.sp - 1#16) ∧ plain (State.reset.cpu.sp - 2#16) ∧
      dmaBlocks State.reset (State.reset.cpu.sp - 1#16) = false ∧ dmaBlocks State.reset (State.reset.cpu.sp - 2#16) = false) ∧
    (let s := here cpu0 []
     plain (s.cpu.sp - 1#16) ∧ plain (s.cpu.sp - 2#16) ∧ dmaBlocks s (s.cpu.sp - 1#16) = false ∧
       dmaBlocks s (s.cpu.sp - 2#16) = false) := by
  refine ⟨⟨?_, ?_, by decide, by decide⟩, ⟨?_, ?_, by decide, by decide⟩⟩ <;> unfold plain <;> decide

/-- A state other than the reset one that meets the invariant: line 143's last dot, the tick before VBlank, with TIMA in window A
and a transfer under way. -/
def busyState : State :=
  { State.reset with
    timer := { Timer.reset with preReload := 2, overflowPending := true, tac := 0x05#8 }
    dma := ⟨0xC1#8, true, 640⟩
    ppu := { Ppu.reset with
      mode := .hblank, stat := 0x80#8, ly := 143#8, dotsLine := 455, dotsRemaining := 1, px := 160, lycLatch := false } }

/-- And one in the middle of Drawing: pixel 8 is due. -/
def drawingState : State :=
  { State.reset with
    ppu := { Ppu.reset with mode := .drawing, stat := 0x87#8, dotsLine := 100, dotsRemaining := 164, px := 8 } }

theorem busyState_inv : Inv busyState :=
  ⟨rfl, rfl, rfl, by decide, ⟨by decide, by decide, by decide⟩, ⟨by decide, by decide, by decide, by decide⟩,
    ⟨by decide, by decide⟩,
    ⟨by decide, by decide, by decide, by decide, by decide, by decide, by decide, fun _ => ⟨by decide, by decide, rfl⟩⟩⟩

theorem drawingState_inv : Inv drawingState :=
  ⟨rfl, rfl, rfl, by decide, ⟨by decide, by decide, by decide⟩, ⟨by decide, by decide, by decide, by decide⟩,
    ⟨by decide, by decide⟩,
    ⟨by decide, by decide, by decide, by decide, by decide, by decide, by decide,
      fun _ => ⟨by decide, by decide, by decide, by decide, by decide, by decide⟩⟩⟩

/-- StepKeepsTheInvariant, ParametersNeverChange. -/
theorem witness_step_keeps : Inv busyState ∧ (∃ t, step busyState = .next t) ∧ busyState.cart.external = false ∧
    busyState.audio.external = false :=
  ⟨busyState_inv, (step_reaches busyState).elim fun _ h => ⟨_, h.2.2⟩, rfl, rfl⟩

/-- FlagByteLowNibbleStaysZero. -/
theorem witness_flag_byte : State.reset.cpu.f &&& 0x0F#8 = 0#8 ∧ ∃ t, exec .nop State.reset = .next t := ⟨rfl, _, rfl⟩

/-- TransferBlocksTheProcessor: the bounds of the range it never blocks. -/
theorem witness_transfer_blocks :
    busyState.dma.inProgress = true ∧ State.reset.dma.inProgress = false ∧
      ¬ (0xFF80 ≤ (0xFF7F#16).toNat ∧ (0xFF7F#16).toNat ≤ 0xFFFE) ∧
      (0xFF80 ≤ (0xFF80#16).toNat ∧ (0xFF80#16).toNat ≤ 0xFFFE) ∧
      (0xFF80 ≤ (0xFFFE#16).toNat ∧ (0xFFFE#16).toNat ≤ 0xFFFE) ∧
      ¬ (0xFF80 ≤ (0xFFFF#16).toNat ∧ (0xFFFF#16).toNat ≤ 0xFFFE) := by decide

/-- ReadDecode, WriteDecode: the bounds of their ranges. -/
theorem witness_decode_ranges :
    (inCart 0x0000#16 ∧ inCart 0x7FFF#16 ∧ ¬ inCart 0x8000#16 ∧ ¬ inCart 0x9FFF#16 ∧ inCart 0xA000#16 ∧ inCart 0xBFFF#16 ∧
      ¬ inCart 0xC000#16) ∧
    (¬ inAudio 0xFF0F#16 ∧ inAudio 0xFF10#16 ∧ inAudio 0xFF3F#16 ∧ ¬ inAudio 0xFF40#16) ∧
    (0xE000 ≤ (0xE000#16).toNat ∧ (0xFDFF#16).toNat < 0xFE00) ∧
    ((0xFF07#16).toNat < 0xFF08 ∧ 0xFF08 ≤ (0xFF08#16).toNat ∧ (0xFF0E#16).toNat < 0xFF0F ∧ 0xFF4C ≤ (0xFF4C#16).toNat) := by
  refine ⟨?_, ?_, by decide, by decide⟩ <;> simp [inCart, inAudio]

/-- ReadDecode, WriteDecode, StoreLeavesOtherBytes: a state with both undescribed collaborators plugged in, and one with neither. -/
theorem witness_collaborators :
    let s : State := { State.reset with cart := ⟨true, [], []⟩, audio := ⟨true, []⟩ }
    s.cart.external = true ∧ s.audio.external = true ∧
      State.reset.cart.external = false ∧ State.reset.audio.external = false := by decide

/-- LoadSeesTheStore: an unblocked plain byte at each bound of the mirrored ranges. -/
theorem witness_load_sees_the_store :
    (plain 0xC000#16 ∧ plain 0xDDFF#16 ∧ plain 0xE000#16 ∧ plain 0xFDFF#16 ∧ plain 0xDE00#16) ∧
      dmaBlocks State.reset 0xC000#16 = false ∧ dmaBlocks State.reset 0xFDFF#16 = false ∧
      (0xC001#16 ≠ 0xC000#16 ∧ 0xC001#16 ≠ 0xC000#16 + 0x2000#16 ∧ 0xC001#16 ≠ 0xC000#16 - 0x2000#16) := by
  refine ⟨?_, by decide, by decide, by decide⟩; simp [plain]

/-- TimerWindowsTimeline, with the timer of 2.10 at tick 3. -/
theorem witness_timer_timeline :
    let t : Timer := { Timer.reset with counter := 0x000F#16, delayedBit := true, tima := 0xFF#8, tma := 0x23#8, tac := 0x05#8 }
    t.preReload = 0 ∧ t.postReload = 0 ∧ t.reloadOverride = none ∧ t.tima = 0xFF#8 ∧ t.delayedBit = true ∧
      Timer.sample { t with counter := t.counter + 1#16 } = false := by decide

/-- TimerRegisterWrites: window A at both ends, window B at both ends, no window. -/
theorem witness_timer_windows :
    (0 < busyState.timer.preReload ∧ 0 < ({ Timer.reset with preReload := 4 } : Timer).preReload) ∧
      (({ Timer.reset with postReload := 1 } : Timer).preReload = 0 ∧ 0 < ({ Timer.reset with postReload := 1 } : Timer).postReload) ∧
      Timer.reset.preReload = 0 ∧ Timer.reset.postReload = 0 := by decide

/-- TransferCopiesThePage: the first tick of a transfer, a later one, and none. -/
theorem witness_transfer :
    State.reset.dma.inProgress = false ∧
      (busyState.dma.inProgress = true ∧ busyState.dma.remaining = busyState.cfg.dmaTicks) ∧
      (let s := { State.reset with dma := ⟨0xC1#8, true, 1⟩ }
       s.dma.inProgress = true ∧ s.dma.remaining ≠ s.cfg.dmaTicks) := by decide

/-- TransferRunsToCompletion, LineLasts456Dots, VBlankAtTheEndOfLine143. -/
theorem witness_busy :
    Inv busyState ∧ busyState.dma.inProgress = true ∧ bit busyState.ppu.lcdc 7 = true ∧
      (bit busyState.ppu.lcdc 7 && decide (busyState.ppu.ly = 143#8 ∧ busyState.ppu.dotsLine = 455)) = true :=
  ⟨busyState_inv, by decide, by decide, by decide⟩

/-- OnePixelPerDrawingDot: a dot that produces a pixel. -/
theorem witness_pixel :
    Inv drawingState ∧ bit drawingState.ppu.lcdc 7 = true ∧ drawingState.ppu.mode = .drawing ∧
      80 + drawingState.ppu.drawDelay ≤ drawingState.ppu.dotsLine ∧
      drawingState.ppu.dotsLine - (80 + drawingState.ppu.drawDelay) < 160 :=
  ⟨drawingState_inv, by decide, by decide, by decide, by decide⟩

/-- ModeEntriesAndTheMatch: every mode. -/
theorem witness_modes :
    (State.reset.ppu.lcdc.getLsbD 7 = true ∧ State.reset.ppu.dotsRemaining ≠ 1 ∧ State.reset.ppu.dotsRemaining ≠ 0) ∧
    (let s : State := { State.reset with ppu := { Ppu.reset with dotsRemaining := 1, dotsLine := 79 } }
     s.ppu.lcdc.getLsbD 7 = true ∧ s.ppu.dotsRemaining = 1) ∧
    State.reset.ppu.mode = .oamScan ∧ drawingState.ppu.mode = .drawing ∧ busyState.ppu.mode = .hblank ∧
      ({ State.reset with ppu := { Ppu.reset with mode := .vblank } } : State).ppu.mode = .vblank := by decide

/-- LcdOffAndOn: off, on, neither. -/
theorem witness_lcd :
    (State.reset.ppu.lcdc.getLsbD 7 = true ∧ (0x11#8).getLsbD 7 = false ∧ (0x93#8).getLsbD 7 = true) ∧
      ({ State.reset with ppu := { Ppu.reset with lcdc := 0x11#8 } } : State).ppu.lcdc.getLsbD 7 = false := by decide

/-- PixelComposition: sprites off; on with none; a covering sprite with a non-zero index, first in the list. -/
theorem witness_composition :
    let p : Ppu := { Ppu.reset with lcdc := 0x93#8, sprites := [⟨16#8, 8#8, 0#8, 0#8⟩] }
    Ppu.reset.lcdc.getLsbD 1 = false ∧ p.lcdc.getLsbD 1 = true ∧
      ((8#8).toNat ≤ 0 + 8 ∧ 0 + 8 < (8#8).toNat + 8 ∧ (16#8).toNat ≤ 0 + 16 ∧ 0 + 16 < (16#8).toNat + 8) ∧
      spriteIndexAt ([(0x8000, 0x80#8)] : Memory) 8 0 0 ⟨16#8, 8#8, 0#8, 0#8⟩ = some 1 := by decide

end Sys2Proof.Tests
end

section
/-! SUPPORT. The frame of a Processor store: which units' bytes a write through the decode can disturb, and from that, that a store
leaves every byte outside `storeReach` alone (20_memory.md R53 to R58). -/

namespace Sys2Proof.Proofs

open Sys2Proof.Machine Sys2Proof.Laws

/-! ### What a write to a register keeps of the other registers -/

@[simp] theorem resetCounter_tma (t : Timer) : t.resetCounter.tma = t.tma := by simp [Timer.resetCounter, edge_eq]
@[simp] theorem resetCounter_tac (t : Timer) : t.resetCounter.tac = t.tac := by simp [Timer.resetCounter, edge_eq]

@[simp] theorem writeTma_div (v : Byte) (t : Timer) : (t.writeTma v).div = t.div := by unfold Timer.writeTma; split <;> rfl
@[simp] theorem writeTma_tac (v : Byte) (t : Timer) : (t.writeTma v).tac = t.tac := by unfold Timer.writeTma; split <;> rfl

@[simp] theorem writeTac_div (v : Byte) (t : Timer) : (t.writeTac v).div = t.div := rfl
@[simp] theorem writeTac_tima (v : Byte) (t : Timer) : (t.writeTac v).tima = t.tima := rfl
@[simp] theorem writeTac_tma (v : Byte) (t : Timer) : (t.writeTac v).tma = t.tma := rfl

/-- A write to TIMA keeps DIV, TMA and TAC in every window (60_exceptions.md R329). -/
theorem writeTima_frame (how : TimaWindowA) (v : Byte) (t : Timer) :
    (t.writeTima how v).div = t.div ∧ (t.writeTima how v).tma = t.tma ∧ (t.writeTima how v).tac = t.tac := by
  unfold Timer.writeTima
  split
  · cases how <;> exact ⟨rfl, rfl, rfl⟩
  · split <;> exact ⟨rfl, rfl, rfl⟩

/-- A write to LCDC keeps the Pixel Unit's other registers but STAT and LY (60_exceptions.md R368, R369). -/
theorem writeLcdc_frame (v : Byte) (s : State) :
    let p := (writeLcdc v s).ppu
    p.scy = s.ppu.scy ∧ p.scx = s.ppu.scx ∧ p.lyc = s.ppu.lyc ∧ p.bgp = s.ppu.bgp ∧ p.obp0 = s.ppu.obp0 ∧
      p.obp1 = s.ppu.obp1 ∧ p.wy = s.ppu.wy ∧ p.wx = s.ppu.wx := by
  unfold writeLcdc
  dsimp only
  split
  · simp [lcdOff, setMode]
  · split
    · simp [lcdOn, enterOamScan, setMode]
    · simp

/-! ### The frame by target -/

/-- `Disturbs s t u`: a write at an address of target `t` may change what is read at another address, of target `u`. DIV and TMA
disturb TIMA (60_exceptions.md R328, R330), LCDC disturbs STAT, LY and IF (R368, R369), an undescribed collaborator its whole
range (20_memory.md R57, R58), and a cell the same cell, read at its mirror (R56). -/
def Disturbs (s : State) : Target → Target → Prop
  | .cart, u => s.cart.external = true ∧ u = .cart
  | .audio, u => s.audio.external = true ∧ u = .audio
  | .div, u => u = .div ∨ u = .tima
  | .tma, u => u = .tma ∨ u = .tima
  | .lcdc, u => u = .lcdc ∨ u = .stat ∨ u = .ly ∨ u = .ifReg
  | t, u => u = t

/-- The default audio unit stores one byte, an external one answers in its own range only (20_memory.md R58). -/
theorem rawRead_audioWrite {s : State} {a b : Word} (ha : target a = .audio) (hne : b ≠ a)
    (h : ¬ Disturbs s .audio (target b)) (v : Byte) : rawRead (audioWrite a v s) b = rawRead s b := by
  have hrange := (target_audio_iff a).1 ha
  have hne' : b.toNat ≠ a.toNat := fun e => hne (BitVec.eq_of_toNat_eq e)
  unfold audioWrite
  by_cases hx : s.audio.external = true
  · rw [if_pos hx]
    have hb : target b ≠ .audio := fun e => h ⟨hx, e⟩
    unfold rawRead; split <;> simp_all
  · rw [if_neg hx]
    unfold rawRead
    cases hb : target b with
    | audio => simp [audioRead, hx, hne']
    | cell k =>
      have hk : k ≠ a.toNat := by have := (target_cell hb).2.2.1; unfold inAudio at hrange; omega
      simp [hk]
    | _ => rfl

/-- A write through the decode changes no other address's byte but those it disturbs (20_memory.md R54, R55). -/
theorem rawRead_rawWrite_of_not_disturbs {s : State} {a b : Word} (hne : b ≠ a) (h : ¬ Disturbs s (target a) (target b))
    (v : Byte) : rawRead (rawWrite a v s) b = rawRead s b := by
  unfold rawWrite
  cases ha : target a with
  | cell k => rw [rawRead_write_cell s ha, if_neg (by simpa [ha, Disturbs] using h)]
  | audio => exact rawRead_audioWrite ha hne (ha ▸ h) v
  | tima =>
    have := writeTima_frame s.cfg.timaWindowA v s.timer
    unfold rawRead; cases hb : target b <;> simp_all [Disturbs, audioRead]
  | lcdc =>
    have := writeLcdc_frame v s
    dsimp only
    rw [writeLcdc_eq]
    unfold rawRead; cases hb : target b <;> simp_all [Disturbs, audioRead]
  | dmaSource => unfold startDma rawRead; cases hb : target b <;> simp_all [Disturbs, audioRead]
  | _ => unfold rawRead; cases hb : target b <;> simp_all [Disturbs, audioRead, Cart.write]

/-! ### The frame by address -/

/-- Two addresses of one register are the same address. -/
theorem eq_of_target_register {a b : Word} {t : Target} (ha : target a = t) (hb : target b = t) (ht : registerAt t ≠ 0) :
    b = a := BitVec.eq_of_toNat_eq ((target_registerAt hb ht).trans (target_registerAt ha ht).symm)

/-- What an unblocked store disturbs is within its reach. -/
theorem storeReach_of_disturbs {s : State} {a b : Word} (hopen : dmaBlocks s a = false)
    (h : Disturbs s (target a) (target b)) : storeReach s a b := by
  refine ⟨hopen, ?_⟩
  cases ha : target a with
  | cart =>
    obtain ⟨hx, hb⟩ : s.cart.external = true ∧ target b = .cart := by simpa [ha, Disturbs] using h
    simp [hx, (target_cart_iff a).1 ha, (target_cart_iff b).1 hb]
  | audio =>
    obtain ⟨hx, hb⟩ : s.audio.external = true ∧ target b = .audio := by simpa [ha, Disturbs] using h
    simp [hx, (target_audio_iff a).1 ha, (target_audio_iff b).1 hb]
  | cell k =>
    have hb : target b = .cell k := by simpa [ha, Disturbs] using h
    rcases target_cell_eq ha hb with h | h | h <;> simp [h]
  | div =>
    rw [ha] at h
    rcases h with hb | hb
    · exact .inl (eq_of_target_register ha hb (by decide))
    · simp [show a.toNat = 0xFF04 from target_registerAt ha (by decide),
        show b.toNat = 0xFF05 from target_registerAt hb (by decide)]
  | tma =>
    rw [ha] at h
    rcases h with hb | hb
    · exact .inl (eq_of_target_register ha hb (by decide))
    · simp [show a.toNat = 0xFF06 from target_registerAt ha (by decide),
        show b.toNat = 0xFF05 from target_registerAt hb (by decide)]
  | lcdc =>
    have hA : a.toNat = 0xFF40 := target_registerAt ha (by decide)
    rw [ha] at h
    rcases h with hb | hb | hb | hb
    · exact .inl (eq_of_target_register ha hb (by decide))
    all_goals simp [hA, target_registerAt hb (by decide), registerAt]
  | _ => exact .inl (eq_of_target_register ha (by rw [ha] at h; exact h) (by decide))

/-- A Processor store leaves every byte outside its reach as it was (20_memory.md R53, R55). -/
theorem rawRead_wr8_of_not_storeReach {s : State} {a b : Word} (h : ¬ storeReach s a b) (v : Byte) :
    rawRead (wr8 a v s) b = rawRead s b := by
  rcases wr8_cases a v s with ⟨-, hw⟩ | ⟨hopen, hw⟩
  · rw [hw]
  · rw [hw]
    exact rawRead_rawWrite_of_not_disturbs (fun e => h ⟨hopen, .inl e⟩) (fun d => h (storeReach_of_disturbs hopen d)) v

end Sys2Proof.Proofs
end

section
/-! SUPPORT. What an instruction that only changes the Processor's registers, or makes one store and then changes them, does: the
two forms of a run that the load statements use. -/

namespace Sys2Proof.Proofs

open Sys2Proof.Machine Sys2Proof.Laws

/-- A change of the Processor's registers is seen by no read of the bus. -/
theorem runsKeepingMemory_of_exec {i : Instr} {s : State} {k : Cpu} (h : exec i s = .next { s with cpu := k }) :
    RunsKeepingMemory i s { s with cpu := k } := ⟨h, fun _ => rfl⟩

/-- A store and then a change of the Processor's registers, in one record. -/
theorem onCpu_wr8 (g : Cpu → Cpu) (a : Word) (v : Byte) (s : State) :
    onCpu g (wr8 a v s) = { wr8 a v s with cpu := g s.cpu } := by
  simp only [onCpu, wr8_cpu]

/-- One store and a change of the Processor's registers keep every byte outside the store's reach. -/
theorem runsStoring_of_exec {i : Instr} {s : State} {a : Word} {v : Byte} (g : Cpu → Cpu)
    (h : exec i s = .next (onCpu g (wr8 a v s))) :
    RunsStoring i s { wr8 a v s with cpu := g s.cpu } (storeReach s a) :=
  ⟨by rw [h, onCpu_wr8], fun _ hb => rawRead_wr8_of_not_storeReach hb v⟩

/-! ### The shared operations of the 8-bit loads -/

/-- A form that runs `ldAFrom` (R145, R146, R149, R151, R153). -/
theorem runsKeepingMemory_ldAFrom {i : Instr} {s : State} (a : Word) (cost : Nat) (h : exec i s = .next (ldAFrom a cost s)) :
    RunsKeepingMemory i s { s with cpu := { s.cpu with a := rd8 s a, busy := cost - 1 } } := runsKeepingMemory_of_exec h

/-- A form that runs `ldAFromHl` reads at the old HL (R156, R158). -/
theorem runsKeepingMemory_ldAFromHl {i : Instr} {s : State} (step : Word) (h : exec i s = .next (ldAFromHl step s)) :
    RunsKeepingMemory i s
      { s with cpu := { s.cpu.setHl (s.cpu.hl + step) with a := rd8 s s.cpu.hl, busy := 1 } } := runsKeepingMemory_of_exec h

/-- A form that runs `ldATo` (R147, R148, R150, R152, R154). -/
theorem runsStoring_ldATo {i : Instr} {s : State} (a : Word) (cost : Nat) (h : exec i s = .next (ldATo a cost s)) :
    RunsStoring i s { wr8 a s.cpu.a s with cpu := { s.cpu with busy := cost - 1 } } (storeReach s a) :=
  runsStoring_of_exec (fun c => { c with busy := cost - 1 }) h

/-- A form that runs `ldAToHl` stores at the old HL (R155, R157). -/
theorem runsStoring_ldAToHl {i : Instr} {s : State} (step : Word) (h : exec i s = .next (ldAToHl step s)) :
    RunsStoring i s { wr8 s.cpu.hl s.cpu.a s with cpu := { s.cpu.setHl (s.cpu.hl + step) with busy := 1 } }
      (storeReach s s.cpu.hl) :=
  runsStoring_of_exec (fun c => { c.setHl (c.hl + step) with busy := 1 }) h

/-! ### Addresses and encodings of the 8-bit loads -/

/-- The address of an LDH form is 0xFF00 plus its byte (30_encoding.md R93). -/
theorem highPage_eq (n : Byte) : highPage n = BitVec.ofNat 16 (0xFF00 + n.toNat) := by
  simp [highPage, join]

/-- A step of 0xFFFF mod 2^16 is a step down by one. -/
theorem add_ffff_eq_sub_one (w : Word) : w + 0xFFFF#16 = w - 1#16 := by bv_omega

theorem encode_ldRow (r : Reg8) (x : Opnd8) : encode (ldRow r x) = [BitVec.ofNat 8 (0x40 + 8 * r.code + x.code)] := by
  cases x with
  | reg q => cases r <;> cases q <;> rfl
  | mHl => cases r <;> rfl

theorem encode_ldMHlRow (r : Reg8) : encode (ldMHlRow r) = [BitVec.ofNat 8 (0x70 + r.code)] := by cases r <;> rfl

theorem encode_ldImmRow (x : Opnd8) (n : Byte) : encode (ldImmRow x n) = [BitVec.ofNat 8 (0x06 + 8 * x.code), n] := by
  cases x with
  | reg r => cases r <;> rfl
  | mHl => rfl

end Sys2Proof.Proofs
end

section
/-! The statements about the 8-bit loads (41_load8.md R140 to R158), from the row lemmas of the encoder and of `exec`. -/

namespace Sys2Proof.Proofs

open Sys2Proof.Machine Sys2Proof.Laws

/-- Settles O5, by the row lemmas for encoding and meaning: a load into a register changes the Processor's registers only. -/
theorem loadsIntoRegisters : Obligations.LoadsIntoRegisters := by
  unfold Obligations.LoadsIntoRegisters
  intro s r q n
  refine ⟨⟨encode_ldRow r (.reg q), runsKeepingMemory_of_exec (exec_ldRow r (.reg q) s)⟩,
    ⟨encode_ldImmRow (.reg r) n, runsKeepingMemory_of_exec (exec_ldImmRow (.reg r) n s)⟩, ?_,
    runsKeepingMemory_of_exec (exec_ldRow r .mHl s)⟩
  have hcode : 0x46 + 8 * r.code = 0x40 + 8 * r.code + Opnd8.mHl.code := by simp only [Opnd8.code]; omega
  rw [hcode, encode_ldRow]

/-- Settles O6: each form is one store at HL and its cost. -/
theorem storesAtHl : Obligations.StoresAtHl := by
  unfold Obligations.StoresAtHl
  intro s r n
  exact ⟨⟨encode_ldMHlRow r, runsStoring_of_exec (fun c => { c with busy := 1 }) (exec_ldMHlRow r s)⟩,
    ⟨encode_ldImmRow .mHl n, runsStoring_of_exec (fun c => { c with busy := 2 }) (exec_ldImmRow .mHl n s)⟩⟩

/-- Settles O7: each form is one bus read into A, at an address the registers gave before it. -/
theorem loadsIntoTheAccumulator : Obligations.LoadsIntoTheAccumulator := by
  unfold Obligations.LoadsIntoTheAccumulator
  intro s n nn
  simp only [← highPage_eq, ← add_ffff_eq_sub_one]
  exact ⟨⟨rfl, runsKeepingMemory_ldAFrom s.cpu.bc 2 rfl⟩, ⟨rfl, runsKeepingMemory_ldAFrom s.cpu.de 2 rfl⟩,
    ⟨rfl, runsKeepingMemory_ldAFrom nn 4 rfl⟩, ⟨rfl, runsKeepingMemory_ldAFrom (highPage s.cpu.c) 2 rfl⟩,
    ⟨rfl, runsKeepingMemory_ldAFrom (highPage n) 3 rfl⟩, ⟨rfl, runsKeepingMemory_ldAFromHl 1#16 rfl⟩,
    ⟨rfl, runsKeepingMemory_ldAFromHl 0xFFFF#16 rfl⟩⟩

/-- Settles O8: each form is one store of A, after which the HL forms move HL, whether or not the store was discarded. -/
theorem storesOfTheAccumulator : Obligations.StoresOfTheAccumulator := by
  unfold Obligations.StoresOfTheAccumulator
  intro s n nn
  simp only [← highPage_eq, ← add_ffff_eq_sub_one]
  exact ⟨⟨rfl, runsStoring_ldATo s.cpu.bc 2 rfl⟩, ⟨rfl, runsStoring_ldATo s.cpu.de 2 rfl⟩,
    ⟨rfl, runsStoring_ldATo nn 4 rfl⟩, ⟨rfl, runsStoring_ldATo (highPage s.cpu.c) 2 rfl⟩,
    ⟨rfl, runsStoring_ldATo (highPage n) 3 rfl⟩, ⟨rfl, runsStoring_ldAToHl 1#16 rfl⟩,
    ⟨rfl, runsStoring_ldAToHl 0xFFFF#16 rfl⟩⟩

end Sys2Proof.Proofs
end

section
/-! SUPPORT. Two stores and then a change of the Processor's registers, pushes, and the encodings and the popped pair of the
16-bit loads (42_load16_stack.md R170 to R175). -/

namespace Sys2Proof.Proofs

open Sys2Proof.Machine Sys2Proof.Laws Sys2Proof.Claims

/-! ### Two stores -/

/-- Two stores keep every byte outside their reach; the second store's block is judged in the state after the first. -/
theorem rawRead_wr8_wr8_of_not_storeReach2 {s : State} {a a' b : Word} {v : Byte} (h : ¬ storeReach2 s a v a' b) (v' : Byte) :
    rawRead (wr8 a' v' (wr8 a v s)) b = rawRead s b :=
  calc rawRead (wr8 a' v' (wr8 a v s)) b
      = rawRead (wr8 a v s) b := rawRead_wr8_of_not_storeReach (fun hb => h (.inr hb)) v'
    _ = rawRead s b := rawRead_wr8_of_not_storeReach (fun hb => h (.inl hb)) v

/-- Two stores and a change of the Processor's registers keep every byte outside the stores' reach. -/
theorem runsStoring2_of_exec {i : Instr} {s : State} {a a' : Word} {v v' : Byte} (g : Cpu → Cpu)
    (h : exec i s = .next (onCpu g (wr8 a' v' (wr8 a v s)))) :
    RunsStoring i s { wr8 a' v' (wr8 a v s) with cpu := g s.cpu } (storeReach2 s a v a') :=
  ⟨by rw [h, onCpu_wr8, wr8_cpu], fun _ hb => rawRead_wr8_wr8_of_not_storeReach2 hb v'⟩

/-- A push and then a change of the Processor's registers: the high byte at SP - 1, the low byte at SP - 2, and SP down by 2
whether or not the stores were discarded (00_scope.md R6). -/
theorem runsStoring_push16 {i : Instr} {s : State} {w : Word} (g : Cpu → Cpu) (h : exec i s = .next (onCpu g (push16 w s))) :
    RunsStoring i s { pushed w s with cpu := g { s.cpu with sp := s.cpu.sp - 2#16 } } (pushReach w s) := by
  rw [push16_eq, onCpu_onCpu] at h
  exact runsStoring2_of_exec (fun c => g { c with sp := c.sp - 2#16 }) h

/-! ### The halves of a pair -/

@[simp] theorem setBc_join (k : Cpu) (hi lo : Byte) : k.setBc (join hi lo) = { k with b := hi, c := lo } := by
  simp only [Cpu.setBc, hiByte_join, loByte_join]

@[simp] theorem setDe_join (k : Cpu) (hi lo : Byte) : k.setDe (join hi lo) = { k with d := hi, e := lo } := by
  simp only [Cpu.setDe, hiByte_join, loByte_join]

@[simp] theorem setHl_join (k : Cpu) (hi lo : Byte) : k.setHl (join hi lo) = { k with h := hi, l := lo } := by
  simp only [Cpu.setHl, hiByte_join, loByte_join]

/-- A write of AF drops bits 3:0 of its low half (10_state.md R12). -/
@[simp] theorem setAf_join (k : Cpu) (hi lo : Byte) : k.setAf (join hi lo) = { k with a := hi, f := lo &&& 0xF0#8 } := by
  simp only [Cpu.setAf, hiByte_join, loByte_join]

/-- POP writes the word with low half at SP and high half at SP + 1 to its pair, in a state where SP is up by 2 (R175). -/
theorem runsKeepingMemory_popRow (r : PairQ) (s : State) :
    RunsKeepingMemory (popRow r) s
      { s with cpu :=
        { (dropTop s.cpu).setPairQ r (join (rd8 s (s.cpu.sp + 1#16)) (rd8 s s.cpu.sp)) with busy := 2 } } :=
  runsKeepingMemory_of_exec (exec_popRow r s)

/-! ### Encodings of the 16-bit loads -/

theorem encode_ld16Row (r : Reg16) (nn : Word) :
    encode (ld16Row r nn) = [BitVec.ofNat 8 (0x01 + 16 * r.code), loByte nn, hiByte nn] := by cases r <;> rfl

theorem encode_pushRow (r : PairQ) : encode (pushRow r) = [BitVec.ofNat 8 (0xC5 + 16 * r.code)] := by cases r <;> rfl

theorem encode_popRow (r : PairQ) : encode (popRow r) = [BitVec.ofNat 8 (0xC1 + 16 * r.code)] := by cases r <;> rfl

end Sys2Proof.Proofs
end

section
/-! The statements about the 16-bit loads and the stack (42_load16_stack.md R170 to R175), from the row lemmas of the encoder
and of `exec`. -/

namespace Sys2Proof.Proofs

open Sys2Proof.Machine Sys2Proof.Laws

/-- Settles O9: each form changes the Processor's registers only, and SP plus `sext_16` of the byte is the signed sum mod 2^16. -/
theorem sixteenBitLoads : Obligations.SixteenBitLoads := by
  unfold Obligations.SixteenBitLoads
  intro s r nn e
  simp only [← add_sext16]
  exact ⟨⟨encode_ld16Row r nn, runsKeepingMemory_of_exec (exec_ld16Row r nn s)⟩, ⟨rfl, runsKeepingMemory_of_exec rfl⟩,
    ⟨rfl, runsKeepingMemory_of_exec rfl⟩⟩

/-- Settles O10: each form is two stores in the rule's order, after which SP and the cost change whatever was discarded. -/
theorem sixteenBitStores : Obligations.SixteenBitStores := by
  unfold Obligations.SixteenBitStores
  intro s r nn
  exact ⟨⟨rfl, runsStoring2_of_exec (fun c => { c with busy := 4 }) rfl⟩,
    ⟨encode_pushRow r, runsStoring_push16 (fun c => { c with busy := 3 }) (exec_pushRow r s)⟩⟩

/-- Settles O11: the popped word is the pair of the bytes at SP + 1 and SP, and a write of a pair writes its halves. -/
theorem popLoadsAPair : Obligations.PopLoadsAPair := by
  unfold Obligations.PopLoadsAPair
  intro s r
  refine ⟨encode_popRow r, ?_⟩
  have hpop := runsKeepingMemory_popRow r s
  cases r with
  | bc => rwa [Cpu.setPairQ, setBc_join] at hpop
  | de => rwa [Cpu.setPairQ, setDe_join] at hpop
  | hl => rwa [Cpu.setPairQ, setHl_join] at hpop
  | af => rwa [Cpu.setPairQ, setAf_join] at hpop

end Sys2Proof.Proofs
end

section
/-! SUPPORT. The 8-bit arithmetic in the statements' terms: what each operation of the ALU answers, the frame of a form on A and of a
read-modify-write, and the encodings (43_alu8.md R180 to R208). -/

namespace Sys2Proof.Proofs

open Sys2Proof.Machine Sys2Proof.Laws Sys2Proof.Claims

/-! ### The primitives of R180 -/

/-- The narrowed sum is zero exactly when the sum is a multiple of 256. -/
theorem ofNat8_eq_zero_iff (n : Nat) : BitVec.ofNat 8 n = 0#8 ↔ n % 256 = 0 := by
  rw [← BitVec.toNat_inj, BitVec.toNat_ofNat]; rfl

/-- The narrowed difference is zero exactly when the difference is a multiple of 256. -/
theorem ofInt8_eq_zero_iff (d : Int) : BitVec.ofInt 8 d = 0#8 ↔ d % 256 = 0 := by
  rw [← BitVec.toNat_inj, BitVec.toNat_ofInt, BitVec.toNat_ofNat]; omega

theorem add8_z (a b : Byte) (cin : Bool) : (add8 a b cin).z = decide ((a.toNat + b.toNat + cin.toNat) % 256 = 0) :=
  decide_eq_decide.2 (ofNat8_eq_zero_iff _)

theorem sub8_z (a b : Byte) (cin : Bool) :
    (sub8 a b cin).z = decide (((a.toNat : Int) - b.toNat - cin.toNat) % 256 = 0) :=
  decide_eq_decide.2 (ofInt8_eq_zero_iff _)

/-- `inc8` adds one mod 2^8, and only 0xFF goes to zero. -/
theorem inc8_eq (v : Byte) (fc : Bool) :
    inc8 v fc = ⟨v + 1#8, decide (v = 0xFF#8), false, decide (v.toNat % 16 = 15), fc⟩ := by
  have hres : BitVec.ofNat 8 (v.toNat + 1) = v + 1#8 := by bv_omega
  have hz : v + 1#8 = 0#8 ↔ v = 0xFF#8 := by bv_omega
  simp only [inc8, hres, hz]

/-- `dec8` takes one away mod 2^8, and only 0x01 goes to zero. -/
theorem dec8_eq (v : Byte) (fc : Bool) :
    dec8 v fc = ⟨v - 1#8, decide (v = 0x01#8), true, decide (v.toNat % 16 = 0), fc⟩ := by
  have hres : BitVec.ofInt 8 ((v.toNat : Int) - 1) = v - 1#8 := by
    rw [← BitVec.toNat_inj, BitVec.toNat_ofInt, BitVec.toNat_sub, BitVec.toNat_ofNat]; omega
  have hz : v - 1#8 = 0#8 ↔ v = 0x01#8 := by bv_omega
  simp only [dec8, hres, hz]

/-! ### The operations on A -/

/-- `add8` written into A: the statements' sum and flags. -/
theorem afterAdd_toNat (v : Byte) (cin : Bool) (cost : Nat) (s : State) :
    afterAdd v cin.toNat cost s =
      spend cost (onCpu (fun c => Cpu.setOutFlags { c with a := (add8 c.a v cin).res } (add8 c.a v cin)) s) := by
  unfold afterAdd; dsimp only; rw [← add8_z]; rfl

/-- The statements' flags of a difference are the four of `sub8`. -/
theorem subFlags_toNat (a v : Byte) (cin : Bool) :
    subFlags a v cin.toNat = packFlags (sub8 a v cin).z (sub8 a v cin).n (sub8 a v cin).h (sub8 a v cin).c := by
  rw [sub8_z]; rfl

/-- `sub8` written into A: the statements' difference and flags. -/
theorem afterSub_toNat (v : Byte) (cin : Bool) (cost : Nat) (s : State) :
    afterSub v cin.toNat cost s =
      spend cost (onCpu (fun c => Cpu.setOutFlags { c with a := (sub8 c.a v cin).res } (sub8 c.a v cin)) s) := by
  unfold afterSub; rw [subFlags_toNat]; rfl

theorem aluOp_add (v : Byte) (cost : Nat) (s : State) : aluOp .add v cost s = afterAdd v 0 cost s :=
  (afterAdd_toNat v false cost s).symm

theorem aluOp_adc (v : Byte) (cost : Nat) (s : State) : aluOp .adc v cost s = afterAdd v s.cpu.fC.toNat cost s :=
  (afterAdd_toNat v s.cpu.fC cost s).symm

theorem aluOp_sub (v : Byte) (cost : Nat) (s : State) : aluOp .sub v cost s = afterSub v 0 cost s :=
  (afterSub_toNat v false cost s).symm

theorem aluOp_sbc (v : Byte) (cost : Nat) (s : State) : aluOp .sbc v cost s = afterSub v s.cpu.fC.toNat cost s :=
  (afterSub_toNat v s.cpu.fC cost s).symm

theorem aluOp_cp (v : Byte) (cost : Nat) (s : State) : aluOp .cp v cost s = afterCompare v cost s := by
  unfold afterCompare; rw [← Bool.toNat_false, subFlags_toNat]; rfl

theorem aluOp_and (v : Byte) (cost : Nat) (s : State) : aluOp .and v cost s = afterLogic (s.cpu.a &&& v) true cost s := rfl

theorem aluOp_xor (v : Byte) (cost : Nat) (s : State) : aluOp .xor v cost s = afterLogic (s.cpu.a ^^^ v) false cost s := rfl

theorem aluOp_or (v : Byte) (cost : Nat) (s : State) : aluOp .or v cost s = afterLogic (s.cpu.a ||| v) false cost s := rfl

/-! ### Frames -/

theorem opCost_eq_costOf (x : Opnd8) (r m : Nat) : opCost x r m = costOf x r m := by cases x <;> rfl

theorem runsKeepingMemory_aluRow (op : Alu) (x : Opnd8) (s : State) :
    RunsKeepingMemory (aluRow op x) s (aluOp op (operand s x) (costOf x 1 2) s) :=
  ⟨by rw [exec_aluRow, aluOnOp, opCost_eq_costOf], fun _ => rfl⟩

theorem runsKeepingMemory_aluImmRow (op : Alu) (n : Byte) (s : State) :
    RunsKeepingMemory (aluImmRow op n) s (aluOp op n 2 s) := ⟨exec_aluImmRow op n s, fun _ => rfl⟩

/-- A form that runs `modifyOp` changes a register, or makes one store at HL, and then writes its flags either way. -/
theorem runsStoring_modifyOp {i : Instr} {s : State} (g : Byte → Bool → Out8) (x : Opnd8) (r m : Nat)
    (h : exec i s = .next (modifyOp g x (opCost x r m) s)) {o : Out8} (ho : g (operand s x) s.cpu.fC = o) :
    RunsStoring i s (afterModify x o.res (packFlags o.z o.n o.h o.c) (costOf x r m) s) (modifyReach x s) := by
  subst ho
  cases x with
  | reg q => exact ⟨h, fun _ _ => rfl⟩
  | mHl => exact runsStoring_of_exec (fun c => { c.setOutFlags (g (rd8 s s.cpu.hl) s.cpu.fC) with busy := m - 1 }) h

/-! ### Encodings -/

theorem encode_aluRow (op : Alu) (x : Opnd8) : encode (aluRow op x) = [BitVec.ofNat 8 (0x80 + 8 * op.code + x.code)] := by
  cases x with
  | reg r => cases op <;> cases r <;> rfl
  | mHl => cases op <;> rfl

theorem encode_aluImmRow (op : Alu) (n : Byte) : encode (aluImmRow op n) = [BitVec.ofNat 8 (0xC6 + 8 * op.code), n] := by
  cases op <;> rfl

theorem encode_incRow (x : Opnd8) : encode (incRow x) = [BitVec.ofNat 8 (0x04 + 8 * x.code)] := by
  cases x with
  | reg r => cases r <;> rfl
  | mHl => rfl

theorem encode_decRow (x : Opnd8) : encode (decRow x) = [BitVec.ofNat 8 (0x05 + 8 * x.code)] := by
  cases x with
  | reg r => cases r <;> rfl
  | mHl => rfl

end Sys2Proof.Proofs
end

section
/-! The statements about 8-bit arithmetic and logic (43_alu8.md R180 to R208), from the row lemmas of the encoder and of `exec`. -/

namespace Sys2Proof.Proofs

open Sys2Proof.Machine Sys2Proof.Laws

/-- Settles O12: ADD and ADC are `add8` into A, whose Z is that of the sum mod 2^8. -/
theorem addAndAddWithCarry : Obligations.AddAndAddWithCarry := by
  unfold Obligations.AddAndAddWithCarry
  intro s x n
  simp only [← aluOp_add, ← aluOp_adc]
  exact ⟨⟨encode_aluRow .add x, runsKeepingMemory_aluRow .add x s⟩,
    ⟨encode_aluImmRow .add n, runsKeepingMemory_aluImmRow .add n s⟩,
    ⟨encode_aluRow .adc x, runsKeepingMemory_aluRow .adc x s⟩,
    ⟨encode_aluImmRow .adc n, runsKeepingMemory_aluImmRow .adc n s⟩⟩

/-- Settles O13: SUB and SBC are `sub8` into A, whose Z is that of the difference mod 2^8. -/
theorem subtractAndSubtractWithCarry : Obligations.SubtractAndSubtractWithCarry := by
  unfold Obligations.SubtractAndSubtractWithCarry
  intro s x n
  simp only [← aluOp_sub, ← aluOp_sbc]
  exact ⟨⟨encode_aluRow .sub x, runsKeepingMemory_aluRow .sub x s⟩,
    ⟨encode_aluImmRow .sub n, runsKeepingMemory_aluImmRow .sub n s⟩,
    ⟨encode_aluRow .sbc x, runsKeepingMemory_aluRow .sbc x s⟩,
    ⟨encode_aluImmRow .sbc n, runsKeepingMemory_aluImmRow .sbc n s⟩⟩

/-- Settles O14: each form is its bitwise operation into A, with H and the cleared flags of its primitive. -/
theorem andXorOr : Obligations.AndXorOr := by
  unfold Obligations.AndXorOr
  intro s x n
  simp only [← aluOp_and, ← aluOp_xor, ← aluOp_or]
  exact ⟨⟨encode_aluRow .and x, runsKeepingMemory_aluRow .and x s⟩,
    ⟨encode_aluImmRow .and n, runsKeepingMemory_aluImmRow .and n s⟩,
    ⟨encode_aluRow .xor x, runsKeepingMemory_aluRow .xor x s⟩,
    ⟨encode_aluImmRow .xor n, runsKeepingMemory_aluImmRow .xor n s⟩,
    ⟨encode_aluRow .or x, runsKeepingMemory_aluRow .or x s⟩,
    ⟨encode_aluImmRow .or n, runsKeepingMemory_aluImmRow .or n s⟩⟩

/-- Settles O15: CP writes the flags of `sub8` and drops its result. -/
theorem compareLeavesTheAccumulator : Obligations.CompareLeavesTheAccumulator := by
  unfold Obligations.CompareLeavesTheAccumulator
  intro s x n
  simp only [← aluOp_cp]
  exact ⟨⟨encode_aluRow .cp x, runsKeepingMemory_aluRow .cp x s⟩,
    ⟨encode_aluImmRow .cp n, runsKeepingMemory_aluImmRow .cp n s⟩, fun _ => rfl, rfl⟩

/-- Settles O16: INC and DEC are read-modify-writes by `inc8` and `dec8`, which pass the carry flag through. -/
theorem incrementAndDecrement : Obligations.IncrementAndDecrement := by
  unfold Obligations.IncrementAndDecrement
  intro s x
  exact ⟨⟨encode_incRow x, runsStoring_modifyOp inc8 x 1 3 (exec_incRow x s) (inc8_eq _ _)⟩,
    ⟨encode_decRow x, runsStoring_modifyOp dec8 x 1 3 (exec_decRow x s) (dec8_eq _ _)⟩⟩

end Sys2Proof.Proofs
end

section
/-! SUPPORT. The 16-bit arithmetic in the statement's terms: the model adds words, the statement narrows a sum of numbers, and the
encodings (44_alu16.md R220 to R223). -/

namespace Sys2Proof.Proofs

open Sys2Proof.Machine

/-! ### Sums mod 2^16 -/

/-- INC of a pair adds one mod 2^16 (R221). -/
theorem add_0x0001 (w : Word) : w + 1#16 = BitVec.ofNat 16 (w.toNat + 1) := BitVec.add_def w 1#16

/-- Adding 0xFFFF mod 2^16, as DEC of a pair does, takes one away (R222). -/
theorem add_0xFFFF (w : Word) : w + 0xFFFF#16 = BitVec.ofInt 16 ((w.toNat : Int) - 1) := by
  rw [← BitVec.toNat_inj, BitVec.toNat_ofInt, BitVec.toNat_add, BitVec.toNat_ofNat]; omega

/-! ### Encodings -/

theorem encode_addHlRow (r : Reg16) : encode (addHlRow r) = [BitVec.ofNat 8 (0x09 + 16 * r.code)] := by cases r <;> rfl

theorem encode_inc16Row (r : Reg16) : encode (inc16Row r) = [BitVec.ofNat 8 (0x03 + 16 * r.code)] := by cases r <;> rfl

theorem encode_dec16Row (r : Reg16) : encode (dec16Row r) = [BitVec.ofNat 8 (0x0B + 16 * r.code)] := by cases r <;> rfl

end Sys2Proof.Proofs
end

section
/-! The statement about 16-bit arithmetic (44_alu16.md R220 to R223), from the row lemmas of the encoder and of `exec`. -/

namespace Sys2Proof.Proofs

open Sys2Proof.Machine Sys2Proof.Laws

/-- Settles O17: each form changes the Processor's registers only, and its sum of words is the rule's sum mod 2^16. -/
theorem sixteenBitArithmetic : Obligations.SixteenBitArithmetic := by
  unfold Obligations.SixteenBitArithmetic
  intro s r e
  simp only [← BitVec.add_def, ← add_0x0001, ← add_0xFFFF, ← add_sext16]
  exact ⟨⟨encode_addHlRow r, runsKeepingMemory_of_exec (exec_addHlRow r s)⟩,
    ⟨encode_inc16Row r, runsKeepingMemory_of_exec (exec_inc16Row r s)⟩,
    ⟨encode_dec16Row r, runsKeepingMemory_of_exec (exec_dec16Row r s)⟩,
    ⟨rfl, runsKeepingMemory_of_exec rfl⟩⟩

end Sys2Proof.Proofs
end

section
/-! SUPPORT. The rotates and DAA in the statements' terms: the model computes with numbers, the statements shift and rotate words
and narrow one signed sum (45_accum_misc.md R230 to R234, 47_cb_shift.md R260). -/

namespace Sys2Proof.Proofs

open Sys2Proof.Machine Sys2Proof.Claims

/-! ### Rotates and shifts of a byte -/

theorem toNat_bit (v : Byte) (i : Nat) : (bit v i).toNat = v.toNat / 2 ^ i % 2 := Nat.toNat_testBit v.toNat i

/-- A byte moved up by `k` and the bits that come into the places it left, as one number. -/
theorem shiftLeft_or_eq (v y : Byte) {k : Nat} (hy : y.toNat < 2 ^ k) :
    v <<< k ||| y = BitVec.ofNat 8 (v.toNat * 2 ^ k + y.toNat) := by
  apply BitVec.eq_of_toNat_eq
  rw [← Nat.shiftLeft_eq, Nat.shiftLeft_add_eq_or_of_lt hy, BitVec.toNat_ofNat, Nat.or_mod_two_pow, Nat.mod_eq_of_lt y.isLt,
    BitVec.toNat_or, BitVec.toNat_shiftLeft]

/-- A byte moved up by `k` with the top of another in the places it left, as one number. -/
theorem shiftLeft_or_ushiftRight (u v : Byte) {k : Nat} (hk : k ≤ 8) :
    u <<< k ||| v >>> (8 - k) = BitVec.ofNat 8 (u.toNat * 2 ^ k + v.toNat / 2 ^ (8 - k)) := by
  have hv : (v >>> (8 - k)).toNat = v.toNat / 2 ^ (8 - k) := by rw [BitVec.toNat_ushiftRight, Nat.shiftRight_eq_div_pow]
  have hlt : v.toNat / 2 ^ (8 - k) < 2 ^ k :=
    Nat.div_lt_of_lt_mul (by rw [← Nat.pow_add, Nat.sub_add_cancel hk]; exact v.isLt)
  rw [shiftLeft_or_eq u _ (hv ▸ hlt), hv]

theorem rotateLeft_eq_ofNat (v : Byte) {k : Nat} (hk : k < 8) :
    v.rotateLeft k = BitVec.ofNat 8 (v.toNat * 2 ^ k + v.toNat / 2 ^ (8 - k)) := by
  rw [BitVec.rotateLeft_def, Nat.mod_eq_of_lt hk, shiftLeft_or_ushiftRight v v hk.le]

/-- A byte moved up by one with `c` in bit 0. -/
theorem ofNat_carry_low (v : Byte) (c : Bool) :
    BitVec.ofNat 8 (2 * v.toNat + c.toNat) = v <<< 1 ||| (if c then 0x01#8 else 0x00#8) := by
  cases c <;> rw [shiftLeft_or_eq v _ (by decide), Nat.mul_comm] <;> rfl

/-- A byte moved down by one with `c` in bit 7. -/
theorem ofNat_carry_high (v : Byte) (c : Bool) :
    BitVec.ofNat 8 (v.toNat / 2 + 128 * c.toNat) = v >>> 1 ||| (if c then 0x80#8 else 0x00#8) := by
  have hc : (if c then 0x80#8 else 0x00#8) = BitVec.ofNat 8 c.toNat <<< 7 := by cases c <;> rfl
  rw [hc, BitVec.or_comm, shiftLeft_or_ushiftRight _ v (k := 7) (by decide), Nat.add_comm, Nat.mul_comm]
  cases c <;> rfl

/-- The statements' rotates and shifts of a byte are the model's numbers narrowed (R260). -/
theorem rotRes_eq_rotated (op : Rot) (v : Byte) (c : Bool) : rotRes op v c = rotated op v c := by
  have hv := v.isLt
  cases op with
  | rlc =>
    rw [rotRes, rotated, rotateLeft_eq_ofNat v (by decide), toNat_bit]
    congr 1; omega
  | rrc =>
    have hr : v.rotateRight 1 = v.rotateLeft 7 := BitVec.or_comm _ _
    rw [rotRes, rotated, hr, rotateLeft_eq_ofNat v (by decide), toNat_bit]
    bv_omega
  | rl => exact ofNat_carry_low v c
  | rr => exact ofNat_carry_high v c
  | sla => exact (ofNat_carry_low v false).trans BitVec.or_zero
  | sra => exact (ofNat_carry_high v (bit v 7)).trans (congrArg (v >>> 1 ||| ·) (BitVec.and_twoPow v 7).symm)
  | swap =>
    rw [rotRes, rotated, rotateLeft_eq_ofNat v (by decide)]
    bv_omega
  | srl => exact (ofNat_carry_high v false).trans BitVec.or_zero

theorem rotCarry_eq_shiftedOut (op : Rot) (v : Byte) : rotCarry op v = shiftedOut op v := by cases op <;> rfl

/-! ### DAA -/

/-- The statement's one signed sum is the sum or the difference that the rule narrows (R234). -/
theorem daaOut_eq (a : Byte) (fn fh fc : Bool) :
    let low := fh || (!fn && decide (a.toNat % 16 > 9))
    let high := fc || (!fn && decide (a.toNat > 0x99))
    let adj : Int := (if low then 0x06 else 0) + (if high then 0x60 else 0)
    let r := BitVec.ofInt 8 (if fn then (a.toNat : Int) - adj else (a.toNat : Int) + adj)
    daaOut a fn fh fc = ⟨r, decide (r = 0#8), fn, false, high⟩ := by
  have hadj (l h : Bool) :
      (((if l then 0x06 else 0) + (if h then 0x60 else 0) : Nat) : Int) = (if l then 0x06 else 0) + (if h then 0x60 else 0) := by
    push_cast; rfl
  cases fn with
  | false =>
    simp only [Bool.not_false, Bool.true_and, Bool.false_eq_true, if_false, ← hadj, ← Nat.cast_add, BitVec.ofInt_natCast]
    rfl
  | true =>
    simp only [Bool.not_true, Bool.false_and, Bool.or_false, if_true, ← hadj]
    rfl

/-- DAA writes the byte and the flags of its adjustment at cost 1 (R234). -/
theorem exec_daa {s : State} {o : Out8} (ho : daaOut s.cpu.a s.cpu.fN s.cpu.fH s.cpu.fC = o) :
    exec .daa s = .next { s with cpu := { s.cpu with a := o.res, f := packFlags o.z o.n o.h o.c, busy := 0 } } := by
  subst ho; rfl

end Sys2Proof.Proofs
end

section
/-! The statements about the accumulator rotates and the flag instructions (45_accum_misc.md R230 to R237), from the equations of
the rotates and of DAA. -/

namespace Sys2Proof.Proofs

open Sys2Proof.Machine

/-- Settles O18: each rotates A as its prefixed form does, into a flag byte with C alone. -/
theorem accumulatorRotates : Obligations.AccumulatorRotates := by
  unfold Obligations.AccumulatorRotates
  intro s
  simp only [← rotRes_eq_rotated, ← rotCarry_eq_shiftedOut]
  exact ⟨⟨rfl, runsKeepingMemory_of_exec rfl⟩, ⟨rfl, runsKeepingMemory_of_exec rfl⟩,
    ⟨rfl, runsKeepingMemory_of_exec rfl⟩, ⟨rfl, runsKeepingMemory_of_exec rfl⟩⟩

/-- Settles O19: DAA narrows one signed sum, and CPL's XOR with 0xFF is the complement. -/
theorem decimalAdjustAndFlagInstructions : Obligations.DecimalAdjustAndFlagInstructions := by
  unfold Obligations.DecimalAdjustAndFlagInstructions
  intro s
  have hcpl : s.cpu.a ^^^ 0xFF#8 = ~~~s.cpu.a := BitVec.xor_allOnes
  rw [← hcpl]
  exact ⟨⟨rfl, runsKeepingMemory_of_exec (exec_daa (daaOut_eq _ _ _ _))⟩, ⟨rfl, runsKeepingMemory_of_exec rfl⟩,
    ⟨rfl, runsKeepingMemory_of_exec rfl⟩, ⟨rfl, runsKeepingMemory_of_exec rfl⟩⟩

end Sys2Proof.Proofs
end

section
/-! SUPPORT. The jumps, calls and returns in the statements' terms: the two outcomes of a conditional form, the target of a
relative jump, a push of PC, the popped word, and the encodings (46_control.md R240 to R250). -/

namespace Sys2Proof.Proofs

open Sys2Proof.Machine Sys2Proof.Laws Sys2Proof.Claims

/-! ### Conditional forms -/

theorem exec_taken {i : Instr} {s : State} {cc : Cond} {g : State → State} {m n : Nat}
    (h : exec i s = .next (ifCond cc g m n s)) (hc : s.cpu.cond cc = true) : exec i s = .next (spend m (g s)) :=
  h.trans (congrArg _ (if_pos hc))

/-- An untaken form changes nothing but what it costs (R241, R244, R246, R248). -/
theorem runsKeepingMemory_untaken {i : Instr} {s : State} {cc : Cond} {g : State → State} {m n : Nat}
    (h : exec i s = .next (ifCond cc g m n s)) (hc : s.cpu.cond cc = false) :
    RunsKeepingMemory i s { s with cpu := { s.cpu with busy := n - 1 } } :=
  runsKeepingMemory_of_exec (h.trans (congrArg _ (if_neg (ne_true_of_eq_false hc))))

/-! ### Targets -/

/-- The target of a relative jump is the signed sum mod 2^16 (R243). -/
theorem relTarget_eq_jumped (pc : Word) (e : Byte) : relTarget pc e = jumped pc e := add_sext16 pc e

/-- The popped word is the statement's word on top of the stack (00_scope.md R6). -/
theorem popValue_eq_topWord (s : State) : popValue s = topWord s := by
  rw [popValue, rd16, join, topWord, Nat.mul_comm]

/-- A form that runs `callTo` pushes the old PC and takes the target, whether or not the stores were discarded (R245, R250). -/
theorem runsStoring_callTo {i : Instr} {s : State} (a : Word) (n : Nat) (h : exec i s = .next (spend n (callTo a s))) :
    RunsStoring i s
      { pushed s.cpu.pc s with cpu := { s.cpu with sp := s.cpu.sp - 2#16, pc := a, busy := n - 1 } }
      (pushReach s.cpu.pc s) :=
  runsStoring_push16 (fun c => { c with pc := a, busy := n - 1 }) h

/-! ### Encodings of the conditional forms and of RST -/

theorem encode_jpRow (cc : Cond) (nn : Word) :
    encode (jpRow cc nn) = [BitVec.ofNat 8 (0xC2 + 8 * cc.code), loByte nn, hiByte nn] := by cases cc <;> rfl

theorem encode_jrRow (cc : Cond) (e : Byte) : encode (jrRow cc e) = [BitVec.ofNat 8 (0x20 + 8 * cc.code), e] := by
  cases cc <;> rfl

theorem encode_callRow (cc : Cond) (nn : Word) :
    encode (callRow cc nn) = [BitVec.ofNat 8 (0xC4 + 8 * cc.code), loByte nn, hiByte nn] := by cases cc <;> rfl

theorem encode_retRow (cc : Cond) : encode (retRow cc) = [BitVec.ofNat 8 (0xC0 + 8 * cc.code)] := by cases cc <;> rfl

theorem encode_rstRow (t : Oct) : encode (rstRow t) = [BitVec.ofNat 8 (0xC7 + 8 * t.val)] := by cases t <;> rfl

end Sys2Proof.Proofs
end

section
/-! The statements about jumps, calls and returns (46_control.md R240 to R250), from the row lemmas of the encoder and of
`exec`. -/

namespace Sys2Proof.Proofs

open Sys2Proof.Machine Sys2Proof.Laws

/-- Settles O21: a jump changes PC and its cost only, and an untaken one its cost only. -/
theorem jumps : Obligations.Jumps := by
  unfold Obligations.Jumps
  intro s cc nn e
  simp only [← relTarget_eq_jumped]
  have hjp := exec_jpRow cc nn s
  have hjr := exec_jrRow cc e s
  exact ⟨⟨rfl, runsKeepingMemory_of_exec rfl⟩,
    ⟨encode_jpRow cc nn, fun hc => runsKeepingMemory_of_exec (exec_taken hjp hc), runsKeepingMemory_untaken hjp⟩,
    ⟨rfl, runsKeepingMemory_of_exec rfl⟩, ⟨rfl, runsKeepingMemory_of_exec rfl⟩,
    ⟨encode_jrRow cc e, fun hc => runsKeepingMemory_of_exec (exec_taken hjr hc), runsKeepingMemory_untaken hjr⟩,
    ⟨rfl, rfl, rfl, rfl⟩⟩

/-- Settles O22: each taken form is a push of PC and then its target; an untaken one pushes nothing. -/
theorem callsAndRestarts : Obligations.CallsAndRestarts := by
  unfold Obligations.CallsAndRestarts
  intro s cc nn t
  have hcall := exec_callRow cc nn s
  exact ⟨⟨rfl, runsStoring_callTo nn 6 rfl⟩,
    ⟨encode_callRow cc nn, fun hc => runsStoring_callTo nn 6 (exec_taken hcall hc), runsKeepingMemory_untaken hcall⟩,
    ⟨encode_rstRow t, runsStoring_callTo _ 4 (exec_rstRow t s)⟩⟩

/-- Settles O23: each taken form pops PC, and RETI alone writes IME. -/
theorem returns : Obligations.Returns := by
  unfold Obligations.Returns
  intro s cc
  simp only [← popValue_eq_topWord]
  have hret := exec_retRow cc s
  exact ⟨⟨rfl, runsKeepingMemory_of_exec rfl⟩,
    ⟨encode_retRow cc, fun hc => runsKeepingMemory_of_exec (exec_taken hret hc), runsKeepingMemory_untaken hret⟩,
    ⟨rfl, runsKeepingMemory_of_exec rfl⟩⟩

end Sys2Proof.Proofs
end

section
/-! The statements about the prefixed rotates, shifts and SWAP (47_cb_shift.md R260 to R276), from one lemma for all eight: each is
the read-modify-write by `rotOut`, whose byte and carry flag are the rule's. -/

namespace Sys2Proof.Proofs

open Sys2Proof.Machine Sys2Proof.Laws Sys2Proof.Claims

/-- The flags of R260: Z from the result, N and H clear, C the bit shifted out. -/
theorem rotOut_eq (op : Rot) (v : Byte) (fc : Bool) :
    rotOut op v fc = ⟨rotated op v fc, decide (rotated op v fc = 0#8), false, false, shiftedOut op v⟩ := by
  rw [rotOut, rotRes_eq_rotated, rotCarry_eq_shiftedOut]

theorem encode_rotRow (op : Rot) (x : Opnd8) : encode (rotRow op x) = [0xCB#8, BitVec.ofNat 8 (8 * op.code + x.code)] := by
  cases x with
  | reg r => cases op <;> cases r <;> rfl
  | mHl => cases op <;> rfl

/-- A prefixed rotate, shift or SWAP changes its register, or makes one store at HL, and then writes its flags either way. -/
theorem runsStoring_rotRow (op : Rot) (x : Opnd8) (s : State) :
    RunsStoring (rotRow op x) s
      (afterModify x (rotated op (operand s x) s.cpu.fC)
        (packFlags (decide (rotated op (operand s x) s.cpu.fC = 0#8)) false false (shiftedOut op (operand s x))) (costOf x 2 4) s)
      (modifyReach x s) :=
  runsStoring_modifyOp (rotOut op) x 2 4 (exec_rotRow op x s) (rotOut_eq op _ _)

/-- Settles O24: the four rotates are cases of the one read-modify-write. -/
theorem prefixedRotates : Obligations.PrefixedRotates := by
  unfold Obligations.PrefixedRotates
  intro s op x _
  exact ⟨encode_rotRow op x, runsStoring_rotRow op x s⟩

/-- Settles O25: SLA, SRA, SWAP and SRL are cases of the same read-modify-write. -/
theorem prefixedShiftsAndSwap : Obligations.PrefixedShiftsAndSwap := by
  unfold Obligations.PrefixedShiftsAndSwap
  intro s op x _
  exact ⟨encode_rotRow op x, runsStoring_rotRow op x s⟩

end Sys2Proof.Proofs
end

section
/-! The statements about the prefixed bit test, reset and set (48_cb_bit.md R280 to R285): BIT changes the Processor's registers
only, and RES and SET are one write of their operand and its cost, with no flag written. -/

namespace Sys2Proof.Proofs

open Sys2Proof.Machine Sys2Proof.Laws Sys2Proof.Claims

/-! ### One bit of a byte -/

/-- The model's power of two narrowed to a byte is the statement's shifted 1, past the byte's end too. -/
theorem bitMask_eq_shiftLeft (i : Nat) : bitMask i = 1#8 <<< i :=
  BitVec.eq_of_toNat_eq ((BitVec.toNat_ofNat _ _).trans (BitVec.toNat_twoPow 8 i).symm)

theorem clearBit_eq (v : Byte) (i : Nat) : clearBit v i = v &&& ~~~(1#8 <<< i) := by rw [clearBit, bitMask_eq_shiftLeft]

theorem setBit_eq (v : Byte) (i : Nat) : setBit v i = v ||| (1#8 <<< i) := by rw [setBit, bitMask_eq_shiftLeft]

/-! ### Frames -/

/-- BIT writes the flag byte and its cost; its bus read leaves no trace (R280, R281). -/
theorem runsKeepingMemory_bitRow (b : Oct) (x : Opnd8) (s : State) :
    RunsKeepingMemory (bitRow b x) s
      { s with cpu := { s.cpu with
          f := packFlags (!(operand s x).getLsbD b.val) false true s.cpu.fC
          busy := costOf x 2 3 - 1 } } :=
  runsKeepingMemory_of_exec (by rw [exec_bitRow, bitOp, opCost_eq_costOf]; rfl)

/-- A form that only writes its operand changes a register, or makes one store at HL, and keeps the flags. -/
theorem runsStoring_setOperand {i : Instr} {s : State} (x : Opnd8) (v : Byte) (r m : Nat)
    (h : exec i s = .next (spend (opCost x r m) (setOperand x v s))) :
    RunsStoring i s (afterModify x v s.cpu.f (costOf x r m) s) (modifyReach x s) := by
  cases x with
  | reg q =>
    rw [← setReg_f s.cpu q v]
    exact ⟨h, fun _ _ => rfl⟩
  | mHl => exact runsStoring_of_exec (fun c => { c with busy := m - 1 }) h

/-! ### Encodings -/

theorem encode_bitRow (b : Oct) (x : Opnd8) :
    encode (bitRow b x) = [0xCB#8, BitVec.ofNat 8 (0x40 + 8 * b.val + x.code)] := by
  cases x with
  | reg r => cases b <;> cases r <;> rfl
  | mHl => cases b <;> rfl

theorem encode_resRow (b : Oct) (x : Opnd8) :
    encode (resRow b x) = [0xCB#8, BitVec.ofNat 8 (0x80 + 8 * b.val + x.code)] := by
  cases x with
  | reg r => cases b <;> cases r <;> rfl
  | mHl => cases b <;> rfl

theorem encode_setRow (b : Oct) (x : Opnd8) :
    encode (setRow b x) = [0xCB#8, BitVec.ofNat 8 (0xC0 + 8 * b.val + x.code)] := by
  cases x with
  | reg r => cases b <;> cases r <;> rfl
  | mHl => cases b <;> rfl

/-! ### The statements -/

/-- Settles O26: each form changes the flag byte and its cost only. -/
theorem bitTests : Obligations.BitTests := by
  unfold Obligations.BitTests
  intro s b x
  exact ⟨encode_bitRow b x, runsKeepingMemory_bitRow b x s⟩

/-- Settles O27: each form writes its operand with one bit cleared or set, and no flag. -/
theorem bitResetAndSet : Obligations.BitResetAndSet := by
  unfold Obligations.BitResetAndSet
  intro s b x
  simp only [← clearBit_eq, ← setBit_eq]
  exact ⟨⟨encode_resRow b x, runsStoring_setOperand x _ 2 4 (exec_resRow b x s)⟩,
    ⟨encode_setRow b x, runsStoring_setOperand x _ 2 4 (exec_setRow b x s)⟩⟩

end Sys2Proof.Proofs
end

section
/-! The statements about the encoding (30_encoding.md R90 to R98) and about the row PREFIX CB (40_engine_system.md R124): the decoder
undoes the encoder instruction by instruction, and the encoder undoes the decoder field by field. -/

namespace Sys2Proof.Proofs

open Sys2Proof.Machine Sys2Proof.Laws

/-! ### The three fields of an opcode byte -/

/-- A byte is its three fields x, y, z (R92). -/
theorem eq_of_fields (b : Byte) :
    b = BitVec.ofNat 8 (64 * field b 6 2 + 8 * (Oct.ofBits (field b 3 3)).val + (Oct.ofBits (field b 0 3)).val) := by
  revert b; decide

theorem field_6_2_lt (b : Byte) : field b 6 2 < 4 := Nat.mod_lt _ (by decide)

theorem rot_code (y : Oct) : y.rot.code = y.val := by cases y <;> rfl
theorem opnd8_code (z : Oct) : z.opnd8.code = z.val := by cases z <;> rfl

/-- The prefixed entry of `op2` encodes as the two bytes (R96). -/
theorem encode_decodePrefixed (op2 : Byte) : encode (decodePrefixed op2) = [0xCB#8, op2] := by
  have hop2 := eq_of_fields op2
  have hx := field_6_2_lt op2
  unfold decodePrefixed
  dsimp only
  generalize Oct.ofBits (field op2 3 3) = y at *
  generalize Oct.ofBits (field op2 0 3) = z at *
  generalize field op2 6 2 = x at *
  subst hop2
  match x with
  | 0 => exact (encode_rotRow y.rot _).trans (by rw [rot_code, opnd8_code, Nat.mul_zero, Nat.zero_add])
  | 1 => exact (encode_bitRow y _).trans (by rw [opnd8_code])
  | 2 => exact (encode_resRow y _).trans (by rw [opnd8_code])
  | 3 => exact (encode_setRow y _).trans (by rw [opnd8_code])

theorem decodePrefixed_wf (op2 : Byte) : (decodePrefixed op2).wf = true := by
  revert op2; decide

/-! ### The decoder undoes the encoder -/

theorem length_bounds (i : Instr) : 1 ≤ i.length ∧ i.length ≤ 3 := by
  cases i <;> exact ⟨Nat.le_of_ble_eq_true rfl, Nat.le_of_ble_eq_true rfl⟩

/-- The instruction read from the bytes `bs` of one instruction when `x` and `y` follow them. -/
def decodeOwn (x y : Byte) : List Byte → Instr
  | [b0] => decodeBytes b0 x y
  | [b0, b1] => decodeBytes b0 b1 x
  | [b0, b1, b2] => decodeBytes b0 b1 b2
  | _ => .nop

/-- The decoder goes by the instruction's own bytes; a word operand is its two bytes (R93). -/
theorem decodeOwn_encode {i : Instr} (hi : i.wf = true) (x y : Byte) : decodeOwn x y (encode i) = i := by
  cases i with
  | prefixCb => cases hi
  | ldBcNn nn | ldMNnSp nn | ldDeNn nn | ldHlNn nn | ldSpNn nn | jpNzNn nn | jpNn nn | callNzNn nn | jpZNn nn | callZNn nn
  | callNn nn | jpNcNn nn | callNcNn nn | jpCNn nn | callCNn nn | ldMNnA nn | ldAMNn nn =>
    exact (congrArg _ (join_hiByte_loByte nn).symm).symm
  | _ => rfl

theorem afterBytes_append (bs rest : List Byte) : afterBytes bs.length (bs ++ rest) = some rest := by
  induction bs with
  | nil => rfl
  | cons b bs ih => exact ih

theorem decode_cons {b0 : Byte} {bs rest : List Byte} {i : Instr}
    (hi : decodeBytes b0 (bs.getD 0 0#8) (bs.getD 1 0#8) = i) (hrest : afterBytes i.length (b0 :: bs) = some rest) :
    decode (b0 :: bs) = .ok (i, rest) := by
  simp only [decode, hi, hrest]

/-- `decode` reads an instruction's own bytes, and leaves what follows them. -/
theorem decode_append {i : Instr} (hi : i.wf = true) (rest : List Byte) : decode (encode i ++ rest) = .ok (i, rest) := by
  have hown := decodeOwn_encode hi (rest.getD 0 0#8) (rest.getD 1 0#8)
  have hafter : afterBytes i.length (encode i ++ rest) = some rest := afterBytes_append (encode i) rest
  obtain ⟨hlen, hlen'⟩ : 1 ≤ (encode i).length ∧ (encode i).length ≤ 3 := length_bounds i
  generalize encode i = bs at *
  match bs with
  | [b0] | [b0, b1] | [b0, b1, b2] => exact decode_cons hown hafter
  | [] | _ :: _ :: _ :: _ :: _ => simp only [List.length] at hlen hlen'; omega

/-- Settles O28: the encoding's bytes select the instruction, and what follows them is left over. -/
theorem decodeOfEncodeIsTheInstruction : Obligations.DecodeOfEncodeIsTheInstruction := by
  unfold Obligations.DecodeOfEncodeIsTheInstruction
  exact fun _ rest hi => decode_append hi rest

/-! ### The encoder undoes the decoder -/

/-- `i` is a well-formed reading of the bytes: its encoding is where they begin. -/
def Reads (i : Instr) (bs : List Byte) : Prop := i.wf = true ∧ encode i = bs.take i.length

theorem reads_ldHaltRow (y z : Oct) (w : Word) :
    Reads (ldHaltRow y.opnd8 z.opnd8) [BitVec.ofNat 8 (64 + 8 * y.val + z.val), loByte w, hiByte w] := by
  cases y <;> cases z <;> exact ⟨rfl, rfl⟩

theorem reads_aluRow (y z : Oct) (w : Word) :
    Reads (aluRow y.alu z.opnd8) [BitVec.ofNat 8 (128 + 8 * y.val + z.val), loByte w, hiByte w] := by
  cases y <;> cases z <;> exact ⟨rfl, rfl⟩

theorem reads_decodeX0 (y z : Oct) (w : Word) :
    Reads (decodeX0 y z (loByte w) w) [BitVec.ofNat 8 (8 * y.val + z.val), loByte w, hiByte w] := by
  cases z <;> cases y <;> exact ⟨rfl, rfl⟩

theorem reads_decodePrefixed (op2 b2 : Byte) : Reads (decodePrefixed op2) [0xCB#8, op2, b2] :=
  ⟨decodePrefixed_wf op2, by rw [Instr.length, encode_decodePrefixed]; rfl⟩

theorem reads_decodeX3 (y z : Oct) (w : Word) :
    Reads (decodeX3 y z (loByte w) w) [BitVec.ofNat 8 (192 + 8 * y.val + z.val), loByte w, hiByte w] := by
  cases z <;> cases y
  case o3.o1 => exact reads_decodePrefixed (loByte w) (hiByte w)
  all_goals exact ⟨rfl, rfl⟩

/-- What the decoder answers is a reading, in each quarter of the first map (R92, R98). -/
theorem reads_decodeBytes (b0 b1 b2 : Byte) : Reads (decodeBytes b0 b1 b2) [b0, b1, b2] := by
  have hb0 := eq_of_fields b0
  have hx := field_6_2_lt b0
  have hlo := loByte_join b2 b1
  have hhi := hiByte_join b2 b1
  unfold decodeBytes
  dsimp only
  generalize join b2 b1 = w at *
  generalize Oct.ofBits (field b0 3 3) = y at *
  generalize Oct.ofBits (field b0 0 3) = z at *
  generalize field b0 6 2 = x at *
  subst hb0 hlo hhi
  match x with
  | 0 => simpa using reads_decodeX0 y z w
  | 1 => exact reads_ldHaltRow y z w
  | 2 => exact reads_aluRow y z w
  | 3 => exact reads_decodeX3 y z w

/-- Settles O29: the decoder's answer is a reading, and decoding undoes encoding, so any other reading is the same. -/
theorem everyByteStringHasOneReading : Obligations.EveryByteStringHasOneReading := by
  unfold Obligations.EveryByteStringHasOneReading
  intro b0 b1 b2
  obtain ⟨hwf, henc⟩ := reads_decodeBytes b0 b1 b2
  generalize decodeBytes b0 b1 b2 = i at *
  obtain ⟨rest, hbytes⟩ : ∃ rest, encode i ++ rest = [b0, b1, b2] :=
    ⟨[b0, b1, b2].drop i.length, by rw [henc, List.take_append_drop]⟩
  have hdec {j : Instr} {rest : List Byte} (hj : j.wf = true) (h : encode j ++ rest = [b0, b1, b2]) :
      decode [b0, b1, b2] = .ok (j, rest) := h ▸ decode_append hj rest
  refine ⟨i, rest, hdec hwf hbytes, hwf, hbytes, (length_bounds i).1, (length_bounds i).2, fun j rest' hj hrest' => ?_⟩
  simpa using (hdec hj hrest').symm.trans (hdec hwf hbytes)

/-! ### The row PREFIX CB -/

/-- The row PREFIX CB and the prefixed entry run the same operation, in each quarter of the prefixed map (R124). -/
theorem exec_decodePrefixed (op2 : Byte) (s : State) : exec (decodePrefixed op2) s = .next (prefixedOp op2 s) := by
  unfold decodePrefixed prefixedOp
  dsimp only
  generalize field op2 6 2 = quarter
  match quarter with
  | 0 => exact exec_rotRow _ _ s
  | 1 => exact exec_bitRow _ _ s
  | 2 => exact exec_resRow _ _ s
  | _ + 3 => exact exec_setRow _ _ s

/-- Settles O4: both run the operation the second byte's fields select. -/
theorem prefixRunsThePrefixedEntry : Obligations.PrefixRunsThePrefixedEntry := by
  unfold Obligations.PrefixRunsThePrefixedEntry
  exact fun s op2 => ⟨rfl, encode_decodePrefixed op2, (exec_decodePrefixed op2 s).symm, _, rfl⟩

/-- Settles O30: each word's bits are an entry of the two maps. -/
theorem wordsOfTheOpcodeMaps : Obligations.WordsOfTheOpcodeMaps := by
  unfold Obligations.WordsOfTheOpcodeMaps
  exact ⟨rfl, rfl, rfl, rfl, rfl, rfl, rfl, rfl, rfl, rfl, rfl, rfl, rfl, rfl, rfl, rfl, rfl⟩

end Sys2Proof.Proofs
end

section
/-! SUPPORT. The Pixel Unit's mode entries and a store to LCDC in one record each, and from them the statements of what one clock and
one store do (60_exceptions.md R352 to R369). -/

namespace Sys2Proof.Proofs

open Sys2Proof.Machine Sys2Proof.Laws

/-! ### The entries into the four modes -/

/-- A change of mode keeps the select bits of STAT (R353). -/
theorem bit_stat_setMode (v : Byte) (m : PpuMode) :
    bit ((v &&& 0xFC#8) ||| BitVec.ofNat 8 m.code) 3 = bit v 3 ∧ bit ((v &&& 0xFC#8) ||| BitVec.ofNat 8 m.code) 4 = bit v 4 ∧
      bit ((v &&& 0xFC#8) ||| BitVec.ofNat 8 m.code) 5 = bit v 5 := by
  cases m <;> revert v <;> decide

/-- `EnterMode2()` (R355). -/
theorem enterOamScan_record (s : State) :
    enterOamScan s = { s with
      ifReg := if bit s.ppu.stat 5 then setBit s.ifReg irqStat else s.ifReg
      ppu := { s.ppu with
        mode := .oamScan, stat := (s.ppu.stat &&& 0xFC#8) ||| 0x02#8, dotsRemaining := 80
        sprites := scanSprites s.mem (spriteHeight s.ppu.lcdc) s.ppu.ly.toNat } } := by
  simp only [enterOamScan, statEvent_if, setMode_ppu, (bit_stat_setMode _ _).2.2]; rfl

/-- `EnterMode3()` (R358). -/
theorem enterDrawing_record (s : State) :
    enterDrawing s = { s with
      penalties := s.penalties.tail
      ppu := { s.ppu with
        mode := .drawing, stat := (s.ppu.stat &&& 0xFC#8) ||| 0x03#8, px := 0, drawDelay := 12 + s.ppu.scx.toNat % 8
        dotsRemaining := 184 + s.ppu.scx.toNat % 8 + min (s.penalties.headD 0) 184 } } := by
  have hdots : 172 + (12 + s.ppu.scx.toNat % 8) = 184 + s.ppu.scx.toNat % 8 := by omega
  simp only [enterDrawing, setMode_ppu, hdots]; rfl

/-- `EnterMode0()` (R359). -/
theorem enterHBlank_record (s : State) :
    enterHBlank s = { s with
      ifReg := if bit s.ppu.stat 3 then setBit s.ifReg irqStat else s.ifReg
      ppu := { s.ppu with
        mode := .hblank, stat := (s.ppu.stat &&& 0xFC#8) ||| 0x00#8, dotsRemaining := 456 - s.ppu.dotsLine } } := by
  simp only [enterHBlank, statEvent_if, setMode_ppu, (bit_stat_setMode _ _).1]; rfl

/-- `EnterMode1()` (R361). -/
theorem enterVBlank_record (s : State) :
    enterVBlank s = { s with
      frameDone := true
      ifReg := (if bit s.ppu.stat 4 then setBit s.ifReg irqStat else s.ifReg) ||| 0x01#8
      ppu := { s.ppu with mode := .vblank, stat := (s.ppu.stat &&& 0xFC#8) ||| 0x01#8, dotsRemaining := 456 } } := by
  have hcomm (b : Bool) : (if b then setBit (setBit s.ifReg irqVBlank) irqStat else setBit s.ifReg irqVBlank) =
      (if b then setBit s.ifReg irqStat else s.ifReg) ||| 0x01#8 := by
    cases b
    · rfl
    · exact (BitVec.or_assoc ..).trans ((congrArg _ (BitVec.or_comm ..)).trans (BitVec.or_assoc ..).symm)
  simp only [enterVBlank, statEvent_if, requestIrq_ppu, requestIrq_ifReg, setMode_ppu, (bit_stat_setMode _ _).2.1, ← hcomm]; rfl

/-! ### Which mode follows -/

theorem transition_oamScan {s : State} (h : s.ppu.mode = .oamScan) : transition s = enterDrawing s := by rw [transition, h]

theorem transition_drawing {s : State} (h : s.ppu.mode = .drawing) : transition s = enterHBlank s := by rw [transition, h]

theorem add_one_eq_144 (v : Byte) : v + 1#8 = 144#8 ↔ v = 143#8 := by bv_omega
theorem add_one_eq_154 (v : Byte) : v + 1#8 = 154#8 ↔ v = 153#8 := by bv_omega

/-- After HBlank comes the next line, its VBlank after line 143 (R353). -/
theorem transition_hblank {s : State} (h : s.ppu.mode = .hblank) :
    transition s = if s.ppu.ly = 143#8 then enterVBlank (nextLine s) else enterOamScan (nextLine s) := by
  rw [transition, h]; simp only [nextLine_ppu, add_one_eq_144]

/-- VBlank lasts to the end of line 153, and line 0 follows (R353). -/
theorem transition_vblank {s : State} (h : s.ppu.mode = .vblank) :
    transition s =
      if s.ppu.ly = 153#8 then enterOamScan { s with ppu := { s.ppu with ly := 0#8, dotsLine := 0 } }
      else { s with ppu := { s.ppu with ly := s.ppu.ly + 1#8, dotsLine := 0, dotsRemaining := 456 } } := by
  rw [transition, h]; simp only [nextLine_ppu, add_one_eq_154]; rfl

/-! ### One clock and one store -/

/-- With dots left, a clock counts one and compares (R352). -/
theorem ppuClock_inMode {s : State} (hon : bit s.ppu.lcdc 7 = true) (h : s.ppu.dotsRemaining - 1 ≠ 0) :
    ppuClock s = lycCompare (countDot (drawStep s)) := by rw [ppuClock_on hon, if_neg h]

/-- At a mode's last dot, a clock makes the transition and compares (R352). -/
theorem ppuClock_atEnd {s : State} (hon : bit s.ppu.lcdc 7 = true) (h : s.ppu.dotsRemaining - 1 = 0) :
    ppuClock s = lycCompare (transition (countDot (drawStep s))) := by rw [ppuClock_on hon, if_pos h]

/-- Frozen while the LCD is off (R368). -/
theorem ppuClock_off {s : State} (hoff : bit s.ppu.lcdc 7 = false) : ppuClock s = s := by simp only [ppuClock, hoff]; rfl

/-- LCD off (R368). -/
theorem writeLcdc_off {v : Byte} {s : State} (hs : bit s.ppu.lcdc 7 = true) (hv : bit v 7 = false) :
    writeLcdc v s = { s with ppu := { s.ppu with
      lcdc := v, ly := 0#8, mode := .hblank, stat := (s.ppu.stat &&& 0xFC#8) ||| 0x00#8, dotsRemaining := s.cfg.lcdOffDots
      dotsLine := 0, px := 0 } } := by
  simp only [writeLcdc, hs, hv]; rfl

/-- LCD on (R369). -/
theorem writeLcdc_on {v : Byte} {s : State} (hs : bit s.ppu.lcdc 7 = false) (hv : bit v 7 = true) :
    writeLcdc v s = { s with
      ifReg := if bit s.ppu.stat 5 then setBit s.ifReg irqStat else s.ifReg
      ppu := { s.ppu with
        lcdc := v, ly := 0#8, mode := .oamScan, stat := (s.ppu.stat &&& 0xFC#8) ||| 0x02#8, dotsRemaining := 80
        dotsLine := 0, px := 0, sprites := scanSprites s.mem (spriteHeight v) 0 } } := by
  simp only [writeLcdc, hs, hv, lcdOn, enterOamScan_record]; rfl

/-- Neither: the byte is stored. -/
theorem writeLcdc_stores {v : Byte} {s : State} (h : bit s.ppu.lcdc 7 = bit v 7) :
    writeLcdc v s = { s with ppu := { s.ppu with lcdc := v } } := by
  simp only [writeLcdc, h, Bool.and_not_self, Bool.not_and_self]; rfl

/-- Settles O58: a clock by `countDot_drawStep`, and each entry by its record. -/
theorem modeEntriesAndTheMatch : Obligations.ModeEntriesAndTheMatch := by
  unfold Obligations.ModeEntriesAndTheMatch
  intro s
  refine ⟨fun hon h1 h0 => ?_, fun hon h1 => ?_, enterOamScan_record s, enterDrawing_record s, ?_, enterVBlank_record s,
    lycCompare_if s, transition_oamScan, transition_drawing, transition_hblank, transition_vblank⟩
  · rw [ppuClock_inMode hon (by omega), countDot_drawStep]
  · rw [ppuClock_atEnd hon (by omega), countDot_drawStep]
  · exact enterHBlank_record s

/-- Settles O59: the three records of a store to LCDC, and the frozen unit. -/
theorem lcdOffAndOn : Obligations.LcdOffAndOn := by
  unfold Obligations.LcdOffAndOn
  intro s v
  have hstat : (s.ppu.stat &&& 0xFC#8) ||| 0x00#8 = s.ppu.stat &&& 0xFC#8 := BitVec.or_zero
  exact ⟨fun hs hv => (writeLcdc_off hs hv).trans (by rw [hstat]), writeLcdc_on, writeLcdc_stores, ppuClock_off⟩

end Sys2Proof.Proofs
end

section
/-! SUPPORT. The Pixel Unit's part of the invariant: what holds of the unit in a line, kept by each step of a clock and by every store
to its registers, and the arithmetic of a line (60_exceptions.md R351 to R369). -/

namespace Sys2Proof.Proofs

open Sys2Proof.Machine Sys2Proof.Laws

/-! ### The parts of the invariant that hold with the LCD on or off -/

/-- The clauses of `PpuOk` that do not ask whether the LCD is on. -/
structure FieldsOk (p : Ppu) : Prop where
  modeBits : field p.stat 0 2 = p.mode.code
  matchBit : bit p.stat 2 = p.lycLatch
  delay : 12 ≤ p.drawDelay ∧ p.drawDelay ≤ 19
  cursor : p.px ≤ 160
  atMostTen : p.sprites.length ≤ 10
  sorted : sortedByX p.sprites = true

theorem fieldsOk_of_ppuOk {p : Ppu} (h : PpuOk p) : FieldsOk p :=
  ⟨h.modeBits, h.matchBit, h.delay, h.cursor, h.atMostTen, h.sorted⟩

theorem ppuOk_of_fieldsOk {p : Ppu} (h : FieldsOk p) (off : bit p.lcdc 7 = false → p.ly = 0#8 ∧ p.mode = .hblank)
    (on : bit p.lcdc 7 = true → 0 < p.dotsRemaining ∧ DotsOk p) : PpuOk p :=
  ⟨h.modeBits, h.matchBit, h.delay, h.cursor, h.atMostTen, h.sorted, off, on⟩

/-- A change of mode keeps the match flag (R353). -/
theorem bit_stat_setMode_match (v : Byte) (m : PpuMode) : bit ((v &&& 0xFC#8) ||| BitVec.ofNat 8 m.code) 2 = bit v 2 := by
  cases m <;> revert v <;> decide

/-- The match comparison keeps the mode bits (R365). -/
theorem field_stat_match (v : Byte) (m : Bool) :
    field ((v &&& 0xFB#8) ||| (if m then 0x04#8 else 0x00#8)) 0 2 = field v 0 2 := by
  cases m <;> revert v <;> decide

theorem FieldsOk.setMode {p : Ppu} (h : FieldsOk p) (m : PpuMode) :
    FieldsOk { p with mode := m, stat := (p.stat &&& 0xFC#8) ||| BitVec.ofNat 8 m.code } :=
  ⟨(setMode_stat p.stat m).1, (bit_stat_setMode_match p.stat m).trans h.matchBit, h.delay, h.cursor, h.atMostTen, h.sorted⟩

theorem FieldsOk.setSprites {p : Ppu} (h : FieldsOk p) (mem : Memory) (ht ly : Nat) :
    FieldsOk { p with sprites := scanSprites mem ht ly } :=
  ⟨h.modeBits, h.matchBit, h.delay, h.cursor, scanSprites_length mem ht ly, (stableSortByX_sorted _).1⟩

theorem FieldsOk.setCursor {p : Ppu} (h : FieldsOk p) {x : Nat} (hx : x ≤ 160) : FieldsOk { p with px := x } :=
  ⟨h.modeBits, h.matchBit, h.delay, hx, h.atMostTen, h.sorted⟩

theorem FieldsOk.setDelay {p : Ppu} (h : FieldsOk p) {d : Nat} (hd : 12 ≤ d ∧ d ≤ 19) : FieldsOk { p with drawDelay := d } :=
  ⟨h.modeBits, h.matchBit, hd, h.cursor, h.atMostTen, h.sorted⟩

/-- Nothing else is asked of the registers, the counts and the frame. -/
theorem FieldsOk.setOthers {p q : Ppu} (h : FieldsOk p)
    (hq : q = { q with
      stat := p.stat, mode := p.mode, lycLatch := p.lycLatch, drawDelay := p.drawDelay, px := p.px, sprites := p.sprites }) :
    FieldsOk q := by
  rw [hq]; exact ⟨h.modeBits, h.matchBit, h.delay, h.cursor, h.atMostTen, h.sorted⟩

theorem fieldsOk_lycCompare {s : State} (h : FieldsOk s.ppu) : FieldsOk (lycCompare s).ppu := by
  rw [lycCompare_if]
  exact ⟨(field_stat_match _ _).trans h.modeBits, (match_stat _ _).1, h.delay, h.cursor, h.atMostTen, h.sorted⟩

/-! ### The dots of a line, mode by mode (R351, R354, R359, R360) -/

theorem dotsOk_oamScan {p : Ppu} (h : p.mode = .oamScan) : DotsOk p ↔ p.ly.toNat < 144 ∧ p.dotsLine + p.dotsRemaining = 80 := by
  simp only [DotsOk, h]

theorem dotsOk_drawing {p : Ppu} (h : p.mode = .drawing) :
    DotsOk p ↔ p.ly.toNat < 144 ∧ 80 ≤ p.dotsLine ∧ 252 + p.drawDelay ≤ p.dotsLine + p.dotsRemaining ∧
      p.dotsLine + p.dotsRemaining ≤ 436 + p.drawDelay ∧ p.px = min 160 (p.dotsLine - (80 + p.drawDelay)) := by
  simp only [DotsOk, h]

theorem dotsOk_hblank {p : Ppu} (h : p.mode = .hblank) : DotsOk p ↔ p.ly.toNat < 144 ∧ p.dotsLine + p.dotsRemaining = 456 := by
  simp only [DotsOk, h]

theorem dotsOk_vblank {p : Ppu} (h : p.mode = .vblank) :
    DotsOk p ↔ 144 ≤ p.ly.toNat ∧ p.ly.toNat ≤ 153 ∧ p.dotsLine + p.dotsRemaining = 456 := by
  simp only [DotsOk, h]

/-- A mode's dots never reach past the line's 456. -/
theorem dots_le_456 {p : Ppu} (hf : FieldsOk p) (hd : DotsOk p) : p.dotsLine + p.dotsRemaining ≤ 456 := by
  have hdelay := hf.delay
  cases hm : p.mode with
  | oamScan => obtain ⟨-, h⟩ := (dotsOk_oamScan hm).1 hd; omega
  | drawing => obtain ⟨-, -, -, h, -⟩ := (dotsOk_drawing hm).1 hd; omega
  | hblank => obtain ⟨-, h⟩ := (dotsOk_hblank hm).1 hd; omega
  | vblank => obtain ⟨-, -, h⟩ := (dotsOk_vblank hm).1 hd; omega

/-- A dot of Drawing past the start-up delay produces the pixel at the cursor; no other dot does anything (R360). -/
theorem drawStep_cases (s : State) :
    ((s.ppu.mode = .drawing ∧ 80 + s.ppu.drawDelay ≤ s.ppu.dotsLine ∧ s.ppu.px < 160) ∧
      (drawStep s).ppu = { s.ppu with
        fb := s.ppu.fb.write s.ppu.px s.ppu.ly.toNat (shadeRgba s.cfg (pixelShade s.mem s.ppu s.ppu.px s.ppu.ly.toNat))
        px := s.ppu.px + 1 }) ∨
    (¬(s.ppu.mode = .drawing ∧ 80 + s.ppu.drawDelay ≤ s.ppu.dotsLine ∧ s.ppu.px < 160) ∧ (drawStep s).ppu = s.ppu) := by
  unfold drawStep
  split
  · exact .inl ⟨‹_›, rfl⟩
  · exact .inr ⟨‹_›, rfl⟩

theorem fieldsOk_countDot {s : State} (h : FieldsOk s.ppu) : FieldsOk (countDot (drawStep s)).ppu := by
  rw [countDot_ppu]
  rcases drawStep_cases s with ⟨⟨-, -, hx⟩, e⟩ | ⟨-, e⟩ <;> rw [e]
  · exact (h.setCursor (x := s.ppu.px + 1) hx).setOthers rfl
  · exact h.setOthers rfl

/-- Counting a dot keeps the line's arithmetic: in Drawing the cursor moves exactly when it is past the start-up delay (R360). -/
theorem dotsOk_countDot {s : State} (h : DotsOk s.ppu) (hdots : 0 < s.ppu.dotsRemaining) :
    DotsOk (countDot (drawStep s)).ppu := by
  rw [countDot_ppu]
  cases hm : s.ppu.mode with
  | drawing =>
    rw [dotsOk_drawing hm] at h
    rcases drawStep_cases s with ⟨⟨-, hlate, hx⟩, e⟩ | ⟨hno, e⟩ <;> rw [e, dotsOk_drawing (by exact hm)] <;> dsimp only
    · omega
    · have : s.ppu.dotsLine < 80 + s.ppu.drawDelay ∨ 160 ≤ s.ppu.px := by grind
      omega
  | oamScan | hblank | vblank =>
    have e : (drawStep s).ppu = s.ppu := (drawStep_cases s).elim (fun h => by simp [hm] at h) (·.2)
    simp only [e, DotsOk, hm] at h ⊢
    omega

/-- The transition of a mode that has run out: the next mode's dots begin, and the line either goes on or, after its 456 dots, is the
next one, 0 after 153 (R353 to R361). -/
theorem line_transition {s : State} (hf : FieldsOk s.ppu) (hd : DotsOk s.ppu) (h0 : s.ppu.dotsRemaining = 0) :
    FieldsOk (transition s).ppu ∧ 0 < (transition s).ppu.dotsRemaining ∧ DotsOk (transition s).ppu := by
  have hdelay := hf.delay
  have hscx : s.ppu.scx.toNat % 8 < 8 := Nat.mod_lt _ (by decide)
  cases hm : s.ppu.mode with
  | oamScan =>
    obtain ⟨hly, hline⟩ := (dotsOk_oamScan hm).1 hd
    rw [transition_oamScan hm, enterDrawing_record]
    refine ⟨(((hf.setMode .drawing).setDelay (d := 12 + s.ppu.scx.toNat % 8) (by omega)).setCursor
      (Nat.zero_le 160)).setOthers rfl, by dsimp only; omega, (dotsOk_drawing rfl).2 ?_⟩
    dsimp only
    omega
  | drawing =>
    obtain ⟨hly, -, -, hline, -⟩ := (dotsOk_drawing hm).1 hd
    rw [transition_drawing hm, enterHBlank_record]
    refine ⟨(hf.setMode .hblank).setOthers rfl, by dsimp only; omega, (dotsOk_hblank rfl).2 ⟨hly, ?_⟩⟩
    dsimp only
    omega
  | hblank =>
    obtain ⟨hly, hline⟩ := (dotsOk_hblank hm).1 hd
    rw [transition_hblank hm]
    split
    · rename_i h143
      rw [enterVBlank_record, nextLine_ppu, h143]
      refine ⟨(hf.setMode .vblank).setOthers rfl, (by decide : 0 < 456), (dotsOk_vblank rfl).2 ⟨?_, ?_, rfl⟩⟩ <;>
        exact Nat.le_of_ble_eq_true rfl
    · rename_i h143
      have hne : s.ppu.ly.toNat ≠ 143 := fun e => h143 (BitVec.eq_of_toNat_eq e)
      rw [enterOamScan_record, nextLine_ppu]
      refine ⟨((hf.setMode .oamScan).setSprites _ _ _).setOthers rfl, (by decide : 0 < 80), (dotsOk_oamScan rfl).2 ⟨?_, rfl⟩⟩
      dsimp only
      bv_omega
  | vblank =>
    obtain ⟨hly, hly', hline⟩ := (dotsOk_vblank hm).1 hd
    rw [transition_vblank hm]
    split
    · rw [enterOamScan_record]
      exact ⟨((hf.setMode .oamScan).setSprites _ _ _).setOthers rfl, (by decide : 0 < 80),
        (dotsOk_oamScan rfl).2 ⟨(by decide : (0#8 : Byte).toNat < 144), rfl⟩⟩
    · rename_i h153
      have hne : s.ppu.ly.toNat ≠ 153 := fun e => h153 (BitVec.eq_of_toNat_eq e)
      refine ⟨hf.setOthers rfl, (by decide : 0 < 456), (dotsOk_vblank (by exact hm)).2 ⟨?_, ?_, rfl⟩⟩ <;> dsimp only <;> bv_omega

/-- A transition leaves the LCD's switch and the frame. -/
theorem transition_frame (s : State) :
    (transition s).ppu.lcdc = s.ppu.lcdc ∧ (transition s).ppu.fb = s.ppu.fb := by
  cases hm : s.ppu.mode with
  | oamScan => rw [transition_oamScan hm, enterDrawing_record]; exact ⟨rfl, rfl⟩
  | drawing => rw [transition_drawing hm, enterHBlank_record]; exact ⟨rfl, rfl⟩
  | hblank =>
    rw [transition_hblank hm]
    split
    · rw [enterVBlank_record]; exact ⟨rfl, rfl⟩
    · rw [enterOamScan_record]; exact ⟨rfl, rfl⟩
  | vblank =>
    rw [transition_vblank hm]
    split
    · rw [enterOamScan_record]; exact ⟨rfl, rfl⟩
    · exact ⟨rfl, rfl⟩

/-! ### A whole clock -/

theorem lycCompare_frame (s : State) :
    (lycCompare s).ppu = { s.ppu with stat := (lycCompare s).ppu.stat, lycLatch := (lycCompare s).ppu.lycLatch } := by
  rw [lycCompare_if]

theorem dotsOk_lycCompare (s : State) : DotsOk (lycCompare s).ppu ↔ DotsOk s.ppu := by
  rw [lycCompare_frame]; rfl

theorem countDot_lcdc (s : State) : (countDot (drawStep s)).ppu.lcdc = s.ppu.lcdc := by rw [countDot_drawStep]

/-- Every clock keeps the unit's part of the invariant. -/
theorem ppuOk_ppuClock {s : State} (h : PpuOk s.ppu) : PpuOk (ppuClock s).ppu := by
  cases hon : bit s.ppu.lcdc 7 with
  | false => rw [ppuClock_off hon]; exact h
  | true =>
    obtain ⟨hdots, hd⟩ := h.on hon
    have hf' := fieldsOk_countDot (fieldsOk_of_ppuOk h)
    have hd' := dotsOk_countDot hd hdots
    have hlcdc := (congrArg (bit · 7) (countDot_lcdc s)).trans hon
    have hleft : (countDot (drawStep s)).ppu.dotsRemaining = s.ppu.dotsRemaining - 1 := by rw [countDot_drawStep]
    by_cases hend : s.ppu.dotsRemaining - 1 = 0
    · rw [ppuClock_atEnd hon hend]
      obtain ⟨hf'', hdots'', hd''⟩ := line_transition hf' hd' (hleft.trans hend)
      have hlcdc'' := (congrArg (bit · 7) (transition_frame (countDot (drawStep s))).1).trans hlcdc
      refine ppuOk_of_fieldsOk (fieldsOk_lycCompare hf'') (fun hoff => ?_) fun _ => ⟨?_, (dotsOk_lycCompare _).2 hd''⟩
      · rw [lycCompare_frame] at hoff; exact absurd (hlcdc''.symm.trans hoff) (by decide)
      · rw [lycCompare_frame]; exact hdots''
    · rw [ppuClock_inMode hon hend]
      refine ppuOk_of_fieldsOk (fieldsOk_lycCompare hf') (fun hoff => ?_) fun _ => ⟨?_, (dotsOk_lycCompare _).2 hd'⟩
      · rw [lycCompare_frame] at hoff; exact absurd (hlcdc.symm.trans hoff) (by decide)
      · rw [lycCompare_frame]; exact hleft ▸ Nat.pos_of_ne_zero hend

end Sys2Proof.Proofs
end

section
/-! SUPPORT. The other parts of the invariant: each unit's clock, every bus write, the Processor's tick and the host's turn keep
them. -/

namespace Sys2Proof.Proofs

open Sys2Proof.Machine Sys2Proof.Laws

/-! ### The Processor -/

/-- F[3:0] = 0 is kept by every way a meaning or an interrupt entry changes the state (10_state.md R12). -/
theorem flags_low_of_reaches {s t : State} (h : Reaches s t) : s.cpu.f &&& 0x0F#8 = 0#8 → t.cpu.f &&& 0x0F#8 = 0#8 :=
  h.keeps (P := fun x => x.cpu.f &&& 0x0F#8 = 0#8) (fun _ x hg => (hg x.cpu).2) (fun a v x hx => by rwa [wr8_cpu])
    (fun _ h => h) (fun _ _ h => h)

theorem dispatch_halted (s : State) : (dispatch s).cpu.halted = s.cpu.halted := by
  unfold dispatch
  dsimp only
  split <;> simp only [spend_cpu, onCpu_cpu, push16_cpu]

/-- At most five machine cycles remain in flight after a boundary, and none while halted (40_engine_system.md R112, R114, R120). -/
theorem busy_of_mCycleStep {s u : State} (h : mCycleStep s = .next u) (hbusy : s.cpu.busy ≤ 5)
    (hhalt : s.cpu.halted = true → s.cpu.busy = 0) : u.cpu.busy ≤ 5 ∧ (u.cpu.halted = true → u.cpu.busy = 0) := by
  unfold mCycleStep at h
  split at h
  · injection h with h
    subst h
    split
    · exact ⟨hbusy, fun h => nomatch h⟩
    · exact ⟨hbusy, hhalt⟩
  rename_i hrun
  split at h
  · injection h with h
    subst h
    exact ⟨(Nat.sub_le _ 1).trans hbusy, fun e => absurd e hrun⟩
  split at h
  · injection h with h
    subst h
    exact ⟨(by decide : 4 ≤ 5), fun e => absurd ((dispatch_halted s).symm.trans e) hrun⟩
  · obtain ⟨hle, hhalt'⟩ := exec_fits _ _ _ h
    exact ⟨hle, fun e => hhalt'.resolve_left fun e' => hrun (e'.symm.trans e)⟩

/-- The Processor's tick: what it reaches keeps the Processor's part of the invariant. -/
theorem cpuTick_keeps_cpuOk {s : State} (hs : CpuOk s.cpu) :
    ∃ u, cpuTick s = .next (advancePhase u) ∧ Reaches s u ∧ CpuOk u.cpu := by
  unfold cpuTick
  split
  · obtain ⟨u, hu, hr⟩ := mCycleStep_reaches s
    obtain ⟨hbusy, hhalt⟩ := busy_of_mCycleStep hu hs.busy hs.halted
    exact ⟨u, by rw [hu]; rfl, hr, flags_low_of_reaches hr hs.flags, hbusy, hhalt⟩
  · exact ⟨s, rfl, Reaches.refl s, hs⟩

/-! ### The Timer Unit -/

theorem timerOk_edge {cfg : Config} {t : Timer} (h : TimerOk cfg t) : TimerOk cfg t.edge := by
  rw [edge_eq]
  generalize (t.delayedBit && !t.sample && decide (t.tima = 0xFF#8)) = overflows
  cases overflows with
  | false => exact ⟨h.pre, h.post, h.pending, h.override⟩
  | true => exact ⟨le_rfl, h.post, rfl, fun ho => ⟨(h.override ho).1, (by decide : 0 < 4)⟩⟩

theorem timerOk_resetCounter {cfg : Config} {t : Timer} (h : TimerOk cfg t) : TimerOk cfg t.resetCounter :=
  timerOk_edge (t := { t with counter := 0#16 }) ⟨h.pre, h.post, h.pending, h.override⟩

/-- An overflow stays pending until the clock that ends window A, which opens window B (60_exceptions.md R323). -/
theorem timerOk_windows {cfg : Config} {t : Timer} (h : TimerOk cfg t) : TimerOk cfg t.windows := by
  obtain ⟨hpre, hpost, hpend, hover⟩ := h
  rw [windows_eq]
  by_cases h1 : t.preReload = 1
  · simp only [h1, if_true]
    exact ⟨(by decide : 0 ≤ 4), le_rfl, by simp, fun ho => nomatch ho⟩
  · simp only [h1, if_false]
    refine ⟨(Nat.sub_le _ 1).trans hpre, (Nat.sub_le _ 1).trans hpost, ?_, fun ho => ⟨(hover ho).1, ?_⟩⟩
    · dsimp only
      rw [hpend, decide_false, Bool.not_false, Bool.and_true, decide_eq_decide]
      omega
    · have := (hover ho).2
      dsimp only
      omega

theorem timerOk_clock {cfg : Config} {t : Timer} (h : TimerOk cfg t) : TimerOk cfg t.clock := by
  obtain ⟨hpre, hpost, hpend, hover⟩ := timerOk_windows h
  exact timerOk_edge (t := { t.windows with counter := t.windows.counter + 1#16 }) ⟨hpre, hpost, hpend, hover⟩

/-- A store to TIMA closes window A only under `cancel`, where no override can be waiting (60_exceptions.md R329). -/
theorem timerOk_writeTima {cfg : Config} {t : Timer} (v : Byte) (h : TimerOk cfg t) :
    TimerOk cfg (t.writeTima cfg.timaWindowA v) := by
  obtain ⟨hpre, hpost, hpend, hover⟩ := h
  unfold Timer.writeTima
  split
  · rename_i hopen
    cases hhow : cfg.timaWindowA with
    | storeOnly => exact ⟨hpre, hpost, hpend, hover⟩
    | cancel => exact ⟨(by decide : 0 ≤ 4), hpost, rfl, fun ho => nomatch hhow.symm.trans (hover ho).1⟩
    | replaceReload => exact ⟨hpre, hpost, hpend, fun _ => ⟨hhow, hopen⟩⟩
  · split <;> exact ⟨hpre, hpost, hpend, hover⟩

theorem timerOk_writeTma {cfg : Config} {t : Timer} (v : Byte) (h : TimerOk cfg t) : TimerOk cfg (t.writeTma v) := by
  unfold Timer.writeTma
  split <;> exact ⟨h.pre, h.post, h.pending, h.override⟩

/-! ### The DMA Unit -/

theorem dmaOk_dmaClock {s : State} (h : DmaOk s.cfg s.dma) : DmaOk s.cfg (dmaClock s).dma := by
  rw [dmaClock_dma]
  split
  · exact ⟨(Nat.sub_le _ 1).trans h.remaining, decide_eq_decide.2 (by dsimp only; omega)⟩
  · exact h

/-! ### The Pixel Unit -/

theorem ppuOk_writeLcdc (v : Byte) {s : State} (h : PpuOk s.ppu) : PpuOk (writeLcdc v s).ppu := by
  have hf := fieldsOk_of_ppuOk h
  cases hs : bit s.ppu.lcdc 7 <;> cases hv : bit v 7
  · rw [writeLcdc_stores (hs.trans hv.symm)]
    exact ppuOk_of_fieldsOk (hf.setOthers rfl) (fun _ => h.off hs) (fun e => absurd (hv.symm.trans e) (by decide))
  · rw [writeLcdc_on hs hv]
    exact ppuOk_of_fieldsOk (((((hf.setMode .oamScan).setSprites _ _ _).setCursor (Nat.zero_le 160))).setOthers rfl)
      (fun e => absurd (hv.symm.trans e) (by decide))
      (fun _ => ⟨(by decide : 0 < 80), (dotsOk_oamScan rfl).2 ⟨(by decide : (0#8 : Byte).toNat < 144), rfl⟩⟩)
  · rw [writeLcdc_off hs hv]
    exact ppuOk_of_fieldsOk (((hf.setMode .hblank).setCursor (Nat.zero_le 160)).setOthers rfl) (fun _ => ⟨rfl, rfl⟩)
      (fun e => absurd (hv.symm.trans e) (by decide))
  · rw [writeLcdc_stores (hs.trans hv.symm)]
    exact ppuOk_of_fieldsOk (hf.setOthers rfl) (fun e => absurd (hv.symm.trans e) (by decide)) (fun _ => h.on hs)

/-- A store to a palette, scroll, window or comparison register asks nothing of the unit. -/
theorem ppuOk_setRegisters {p q : Ppu} (h : PpuOk p)
    (hq : q = { p with
      scy := q.scy, scx := q.scx, lyc := q.lyc, bgp := q.bgp, obp0 := q.obp0, obp1 := q.obp1, wy := q.wy, wx := q.wx }) :
    PpuOk q := by
  rw [hq]; exact ppuOk_of_fieldsOk ((fieldsOk_of_ppuOk h).setOthers rfl) h.off h.on

theorem stat_written_low (v w : Byte) : ((v &&& 0xF8#8) ||| (w &&& 0x07#8)) &&& 0x07#8 = w &&& 0x07#8 := by
  rw [BitVec.and_or_distrib_right, BitVec.and_assoc, BitVec.and_assoc]
  exact (congrArg (· ||| w &&& 0x07#8) (BitVec.and_zero (x := v))).trans BitVec.zero_or

/-- A store to STAT keeps its mode bits and its match flag (20_memory.md R55). -/
theorem ppuOk_setStat (v : Byte) {p : Ppu} (h : PpuOk p) :
    PpuOk { p with stat := (v &&& 0xF8#8) ||| (p.stat &&& 0x07#8) } := by
  have hlow : ∀ w : Byte, field w 0 2 = field (w &&& 0x07#8) 0 2 ∧ bit w 2 = bit (w &&& 0x07#8) 2 := by decide
  have hkept := stat_written_low v p.stat
  refine ppuOk_of_fieldsOk ⟨?_, ?_, h.delay, h.cursor, h.atMostTen, h.sorted⟩ h.off h.on
  · rw [(hlow _).1, hkept, ← (hlow _).1]; exact h.modeBits
  · rw [(hlow _).2, hkept, ← (hlow _).2]; exact h.matchBit

/-- A pixel is produced inside the 160 × 144 frame only. -/
theorem frame_wf_drawStep {s : State} (h : PpuOk s.ppu) (hon : bit s.ppu.lcdc 7 = true) (hfb : s.ppu.fb.wf = true) :
    (drawStep s).ppu.fb.wf = true := by
  rcases drawStep_cases s with ⟨⟨hm, -, hx⟩, e⟩ | ⟨-, e⟩ <;> rw [e]
  · exact frameBuffer_wf_write _ _ hx ((dotsOk_drawing hm).1 (h.on hon).2).1 hfb
  · exact hfb

theorem ppuClock_fb (s : State) : (ppuClock s).ppu.fb = if bit s.ppu.lcdc 7 then (drawStep s).ppu.fb else s.ppu.fb := by
  cases hon : bit s.ppu.lcdc 7 with
  | false => rw [ppuClock_off hon]; rfl
  | true =>
    by_cases hend : s.ppu.dotsRemaining - 1 = 0
    · rw [ppuClock_atEnd hon hend, lycCompare_frame, (transition_frame _).2]; rfl
    · rw [ppuClock_inMode hon hend, lycCompare_frame]; rfl

theorem frame_wf_ppuClock {s : State} (h : PpuOk s.ppu) (hfb : s.ppu.fb.wf = true) : (ppuClock s).ppu.fb.wf = true := by
  rw [ppuClock_fb]
  split
  · exact frame_wf_drawStep h ‹_› hfb
  · exact hfb

/-! ### The bus -/

/-- The part of the invariant that a bus write can touch, but for memory, whose laws stand in `Laws/Memory`. -/
structure UnitsOk (s : State) : Prop where
  image : s.cart.image.wf = true
  frame : s.ppu.fb.wf = true
  dmaTicks : 0 < s.cfg.dmaTicks
  timer : TimerOk s.cfg s.timer
  dma : DmaOk s.cfg s.dma
  ppu : PpuOk s.ppu

theorem cart_write_image (c : Cart) (a : Word) (v : Byte) : (c.write a v).image = c.image := by unfold Cart.write; split <;> rfl

theorem writeLcdc_fb (v : Byte) (s : State) : (writeLcdc v s).ppu.fb = s.ppu.fb := by
  cases hs : bit s.ppu.lcdc 7 <;> cases hv : bit v 7
  · rw [writeLcdc_stores (hs.trans hv.symm)]
  · rw [writeLcdc_on hs hv]
  · rw [writeLcdc_off hs hv]
  · rw [writeLcdc_stores (hs.trans hv.symm)]

/-- A write through the decode keeps every unit's part, by what the address reaches. -/
theorem unitsOk_rawWrite (a : Word) (v : Byte) (s : State) (h : UnitsOk s) : UnitsOk (rawWrite a v s) := by
  obtain ⟨himage, hframe, hticks, htimer, hdma, hppu⟩ := h
  unfold rawWrite
  cases target a with
  | cart => exact ⟨(congrArg Memory.wf (cart_write_image _ a v)).trans himage, hframe, hticks, htimer, hdma, hppu⟩
  | audio => unfold audioWrite; dsimp only; split <;> exact ⟨himage, hframe, hticks, htimer, hdma, hppu⟩
  | div => exact ⟨himage, hframe, hticks, timerOk_resetCounter htimer, hdma, hppu⟩
  | tima => exact ⟨himage, hframe, hticks, timerOk_writeTima v htimer, hdma, hppu⟩
  | tma => exact ⟨himage, hframe, hticks, timerOk_writeTma v htimer, hdma, hppu⟩
  | tac => exact ⟨himage, hframe, hticks, ⟨htimer.pre, htimer.post, htimer.pending, htimer.override⟩, hdma, hppu⟩
  | lcdc =>
    have hwritten := ppuOk_writeLcdc v hppu
    have hfb := writeLcdc_fb v s
    dsimp only
    rw [writeLcdc_eq]
    exact ⟨himage, (congrArg FrameBuffer.wf hfb).trans hframe, hticks, htimer, hdma, hwritten⟩
  | stat => exact ⟨himage, hframe, hticks, htimer, hdma, ppuOk_setStat v hppu⟩
  | dmaSource => exact ⟨himage, hframe, hticks, htimer, ⟨le_rfl, (decide_eq_true hticks).symm⟩, hppu⟩
  | scy | scx | lyc | bgp | obp0 | obp1 | wy | wx =>
    exact ⟨himage, hframe, hticks, htimer, hdma, ppuOk_setRegisters hppu rfl⟩
  | cell | ifReg | ieReg | ly => exact ⟨himage, hframe, hticks, htimer, hdma, hppu⟩

theorem unitsOk_of_reaches {s t : State} (h : Reaches s t) : UnitsOk s → UnitsOk t :=
  h.keepsBus (fun _ _ _ h => ⟨h.image, h.frame, h.dmaTicks, h.timer, h.dma, h.ppu⟩) unitsOk_rawWrite
    (fun _ h => ⟨h.image, h.frame, h.dmaTicks, timerOk_resetCounter h.timer, h.dma, h.ppu⟩)
    (fun _ _ h => ⟨h.image, h.frame, h.dmaTicks, h.timer, h.dma, h.ppu⟩)

/-- The units' turns keep them. -/
theorem unitsOk_unitsTurn {s : State} (h : UnitsOk s) : UnitsOk (unitsTurn s) := by
  refine ⟨?_, ?_, ?_, ?_, ?_, ?_⟩
  · rw [unitsTurn_cart]; exact h.image
  · rw [unitsTurn_ppu]; exact frame_wf_ppuClock h.ppu h.frame
  · rw [unitsTurn_cfg]; exact h.dmaTicks
  · rw [unitsTurn_cfg, unitsTurn_timer]; exact timerOk_clock h.timer
  · rw [unitsTurn_cfg, unitsTurn_dma, ← dmaClock_dma]; exact dmaOk_dmaClock h.dma
  · rw [unitsTurn_ppu]; exact ppuOk_ppuClock h.ppu

theorem unitsTurn_mem_wf {s : State} (h : s.mem.wf = true) : (unitsTurn s).mem.wf = true := by
  rw [unitsTurn_mem]
  refine dmaClock_mem_wf _ ?_
  rw [timerClock_eq, ppuClock_eq]
  exact h

/-! ### The statements -/

/-- Settles O39: the host's turn, what the Processor reaches, and the units' turns each keep the invariant's parts. -/
theorem stepKeepsTheInvariant : Obligations.StepKeepsTheInvariant := by
  unfold Obligations.StepKeepsTheInvariant
  intro s t h hstep
  have hcpu : CpuOk (hostTurn s).cpu := by rw [hostTurn_cpu]; exact h.cpu
  have hunits : UnitsOk (hostTurn s) := by
    rw [hostTurn_eq]; exact ⟨h.image, h.frame, h.dmaTicks, h.timer, h.dma, h.ppu⟩
  obtain ⟨u, hu, hr, hcpu'⟩ := cpuTick_keeps_cpuOk hcpu
  have hs : step s = .next (unitsTurn (advancePhase u)) := by simp only [step, oneTick, hu]; rfl
  rw [hs] at hstep
  injection hstep with hstep
  subst hstep
  have hmem := unitsTurn_mem_wf (s := advancePhase u) (hr.mem_wf (hostTurn_mem_wf s h.mem))
  have hreached := unitsOk_of_reaches hr hunits
  obtain ⟨himage, hframe, hticks, htimer, hdma, hppu⟩ := unitsOk_unitsTurn (s := advancePhase u)
    ⟨hreached.image, hreached.frame, hreached.dmaTicks, hreached.timer, hreached.dma, hreached.ppu⟩
  refine ⟨hmem, himage, hframe, hticks, ?_, htimer, hdma, hppu⟩
  rw [unitsTurn_cpu]
  exact ⟨hcpu'.flags, hcpu'.busy, hcpu'.halted⟩

/-- Settles O40: each clause is a closed fact of the reset values. -/
theorem resetHasTheInvariant : Obligations.ResetHasTheInvariant := by
  unfold Obligations.ResetHasTheInvariant
  exact ⟨rfl, rfl, rfl, by decide, ⟨by decide, by decide, by decide⟩, ⟨by decide, by decide, by decide, by decide⟩,
    ⟨by decide, by decide⟩,
    ⟨by decide, by decide, by decide, by decide, by decide, by decide, by decide, fun _ => ⟨by decide, by decide, rfl⟩⟩⟩

/-- Settles O41: no way a meaning or an interrupt entry changes the state makes F[3:0] non-zero. -/
theorem flagByteLowNibbleStaysZero : Obligations.FlagByteLowNibbleStaysZero := by
  unfold Obligations.FlagByteLowNibbleStaysZero
  intro i s t hs
  refine ⟨fun ht => ?_, flags_low_of_reaches (dispatch_reaches s) hs⟩
  obtain ⟨u, hu, hr⟩ := exec_reaches i s
  obtain rfl : t = u := by simpa [hu] using ht.symm
  exact flags_low_of_reaches hr hs

end Sys2Proof.Proofs
end

section
/-! The statements about the Pixel Unit's line, VBlank and pixels (60_exceptions.md R351 to R373), from the arithmetic of a line. -/

namespace Sys2Proof.Proofs

open Sys2Proof.Machine Sys2Proof.Laws Sys2Proof.Claims

/-! ### A line -/

/-- A mode that runs out before the line's 456 dots keeps the line; one that runs out there begins the next, 0 after 153. -/
theorem transition_line {s : State} (hf : FieldsOk s.ppu) (hd : DotsOk s.ppu) (h0 : s.ppu.dotsRemaining = 0) :
    (s.ppu.dotsLine < 456 ∧ (transition s).ppu.ly = s.ppu.ly ∧ (transition s).ppu.dotsLine = s.ppu.dotsLine) ∨
    (s.ppu.dotsLine = 456 ∧ (transition s).ppu.dotsLine = 0 ∧ (transition s).ppu.ly.toNat = (s.ppu.ly.toNat + 1) % 154) := by
  have hdelay := hf.delay
  cases hm : s.ppu.mode with
  | oamScan =>
    obtain ⟨-, hline⟩ := (dotsOk_oamScan hm).1 hd
    rw [transition_oamScan hm, enterDrawing_record]
    exact .inl ⟨by omega, rfl, rfl⟩
  | drawing =>
    obtain ⟨-, -, -, hline, -⟩ := (dotsOk_drawing hm).1 hd
    rw [transition_drawing hm, enterHBlank_record]
    exact .inl ⟨by omega, rfl, rfl⟩
  | hblank =>
    obtain ⟨hly, hline⟩ := (dotsOk_hblank hm).1 hd
    have hnext : (s.ppu.ly + 1#8).toNat = (s.ppu.ly.toNat + 1) % 154 := by bv_omega
    rw [transition_hblank hm]
    split
    · rw [enterVBlank_record]; exact .inr ⟨by omega, rfl, hnext⟩
    · rw [enterOamScan_record]; exact .inr ⟨by omega, rfl, hnext⟩
  | vblank =>
    obtain ⟨hly, hly', hline⟩ := (dotsOk_vblank hm).1 hd
    rw [transition_vblank hm]
    split
    · rename_i h153
      rw [enterOamScan_record, h153]; exact .inr ⟨by omega, rfl, rfl⟩
    · rename_i h153
      have hnext : (s.ppu.ly + 1#8).toNat = (s.ppu.ly.toNat + 1) % 154 := by bv_omega
      exact .inr ⟨by omega, rfl, hnext⟩

theorem countDot_mode (s : State) : (countDot (drawStep s)).ppu.mode = s.ppu.mode := by rw [countDot_drawStep]
theorem countDot_ly (s : State) : (countDot (drawStep s)).ppu.ly = s.ppu.ly := by rw [countDot_drawStep]
theorem countDot_dotsLine (s : State) : (countDot (drawStep s)).ppu.dotsLine = s.ppu.dotsLine + 1 := by rw [countDot_drawStep]
theorem countDot_dotsRemaining (s : State) : (countDot (drawStep s)).ppu.dotsRemaining = s.ppu.dotsRemaining - 1 := by
  rw [countDot_drawStep]
theorem lycCompare_ly (s : State) : (lycCompare s).ppu.ly = s.ppu.ly := by rw [lycCompare_frame]
theorem lycCompare_dotsLine (s : State) : (lycCompare s).ppu.dotsLine = s.ppu.dotsLine := by rw [lycCompare_frame]

/-- One clock of a line with the LCD on: the dot is counted and LY holds, or the line's last dot begins the next line. -/
theorem ppuClock_line {s : State} (h : PpuOk s.ppu) (hon : bit s.ppu.lcdc 7 = true) :
    s.ppu.dotsLine < 456 ∧
    (s.ppu.dotsLine + 1 < 456 → (ppuClock s).ppu.ly = s.ppu.ly ∧ (ppuClock s).ppu.dotsLine = s.ppu.dotsLine + 1) ∧
    (s.ppu.dotsLine + 1 = 456 →
      (ppuClock s).ppu.dotsLine = 0 ∧ (ppuClock s).ppu.ly.toNat = (s.ppu.ly.toNat + 1) % 154) := by
  obtain ⟨hdots, hd⟩ := h.on hon
  have hf := fieldsOk_of_ppuOk h
  have hle := dots_le_456 hf hd
  refine ⟨by omega, ?_⟩
  by_cases hend : s.ppu.dotsRemaining - 1 = 0
  · rw [ppuClock_atEnd hon hend, lycCompare_ly, lycCompare_dotsLine]
    have hline := transition_line (fieldsOk_countDot hf) (dotsOk_countDot hd hdots) ((countDot_dotsRemaining s).trans hend)
    rw [countDot_ly, countDot_dotsLine] at hline
    rcases hline with ⟨hlt, hly, hdl⟩ | ⟨heq, hdl, hly⟩
    · exact ⟨fun _ => ⟨hly, hdl⟩, fun _ => by omega⟩
    · exact ⟨fun _ => by omega, fun _ => ⟨hdl, hly⟩⟩
  · rw [ppuClock_inMode hon hend, lycCompare_ly, lycCompare_dotsLine, countDot_ly, countDot_dotsLine]
    exact ⟨fun _ => ⟨rfl, rfl⟩, fun _ => by omega⟩

theorem ppuClock_lcdc (s : State) : (ppuClock s).ppu.lcdc = s.ppu.lcdc := by
  cases hon : bit s.ppu.lcdc 7 with
  | false => rw [ppuClock_off hon]
  | true =>
    by_cases hend : s.ppu.dotsRemaining - 1 = 0
    · rw [ppuClock_atEnd hon hend, lycCompare_frame, (transition_frame _).1]; exact countDot_lcdc s
    · rw [ppuClock_inMode hon hend, lycCompare_frame]; exact countDot_lcdc s

/-- The rest of a line, dot by dot. -/
theorem iter_ppuClock_line (k : Nat) {s : State} (h : PpuOk s.ppu) (hon : bit s.ppu.lcdc 7 = true) :
    (s.ppu.dotsLine + k < 456 →
      (iter ppuClock k s).ppu.ly = s.ppu.ly ∧ (iter ppuClock k s).ppu.dotsLine = s.ppu.dotsLine + k) ∧
    (s.ppu.dotsLine + k = 456 →
      (iter ppuClock k s).ppu.dotsLine = 0 ∧ (iter ppuClock k s).ppu.ly.toNat = (s.ppu.ly.toNat + 1) % 154) := by
  obtain ⟨hlt, hgo, hend⟩ := ppuClock_line h hon
  induction k generalizing s with
  | zero => exact ⟨fun _ => ⟨rfl, rfl⟩, fun _ => by omega⟩
  | succ k ih =>
    have h' := ppuOk_ppuClock h
    have hon' := (congrArg (bit · 7) (ppuClock_lcdc s)).trans hon
    obtain ⟨hlt', hgo', hend'⟩ := ppuClock_line h' hon'
    simp only [iter]
    by_cases hlast : s.ppu.dotsLine + 1 = 456
    · obtain ⟨hdl, hly⟩ := hend hlast
      refine ⟨fun _ => by omega, fun _ => ?_⟩
      obtain rfl : k = 0 := by omega
      exact ⟨hdl, hly⟩
    · obtain ⟨hly, hdl⟩ := hgo (by omega)
      obtain ⟨ihgo, ihend⟩ := ih h' hon' hlt' hgo' hend'
      rw [hly, hdl] at ihgo ihend
      exact ⟨fun _ => by rw [(ihgo (by omega)).1, (ihgo (by omega)).2]; exact ⟨rfl, by omega⟩, fun _ => ihend (by omega)⟩

/-- Settles O54, by induction on the dots left in the line. -/
theorem lineLasts456Dots : Obligations.LineLasts456Dots := by
  unfold Obligations.LineLasts456Dots
  intro s h hon
  have hlt := (ppuClock_line h.ppu hon).1
  exact ⟨hlt, fun k => (iter_ppuClock_line k h.ppu hon).1, (iter_ppuClock_line _ h.ppu hon).2 (by omega)⟩

/-! ### VBlank (R361, R373) -/

theorem bit_setBit_irqStat (v : Byte) (b : Bool) : (if b then setBit v irqStat else v).getLsbD 0 = v.getLsbD 0 := by
  cases b
  · rfl
  · revert v; decide

/-- Only the transition that ends line 143 requests VBlank and completes the frame. -/
theorem transition_events (s : State) :
    (s.ppu.mode = .hblank ∧ s.ppu.ly = 143#8 ∧ transition s = enterVBlank (nextLine s)) ∨
    (¬(s.ppu.mode = .hblank ∧ s.ppu.ly = 143#8) ∧ (transition s).ifReg.getLsbD 0 = s.ifReg.getLsbD 0 ∧
      (transition s).frameDone = s.frameDone) := by
  cases hm : s.ppu.mode with
  | oamScan => rw [transition_oamScan hm, enterDrawing_record]; exact .inr ⟨by simp, rfl, rfl⟩
  | drawing =>
    rw [transition_drawing hm, enterHBlank_record]; exact .inr ⟨by simp, bit_setBit_irqStat _ _, rfl⟩
  | hblank =>
    rw [transition_hblank hm]
    split
    · exact .inl ⟨rfl, ‹_›, rfl⟩
    · rw [enterOamScan_record]; exact .inr ⟨by simpa using ‹_›, bit_setBit_irqStat _ _, rfl⟩
  | vblank =>
    rw [transition_vblank hm]
    split
    · rw [enterOamScan_record]; exact .inr ⟨by simp, bit_setBit_irqStat _ _, rfl⟩
    · exact .inr ⟨by simp, rfl, rfl⟩

theorem lycCompare_events (s : State) :
    (lycCompare s).ifReg.getLsbD 0 = s.ifReg.getLsbD 0 ∧ (lycCompare s).frameDone = s.frameDone := by
  rw [lycCompare_if]; exact ⟨bit_setBit_irqStat _ _, rfl⟩

/-- The last dot of line 143 is HBlank's last. -/
theorem mode_at_end_of_line143 {p : Ppu} (hf : FieldsOk p) (hd : DotsOk p) (hdots : 0 < p.dotsRemaining) :
    p.ly = 143#8 ∧ p.dotsLine = 455 ↔ p.mode = .hblank ∧ p.ly = 143#8 ∧ p.dotsRemaining = 1 := by
  have hdelay := hf.delay
  cases hm : p.mode with
  | oamScan =>
    obtain ⟨-, hline⟩ := (dotsOk_oamScan hm).1 hd
    exact ⟨fun ⟨_, hdl⟩ => by omega, fun e => nomatch e.1⟩
  | drawing =>
    obtain ⟨-, -, -, hline, -⟩ := (dotsOk_drawing hm).1 hd
    exact ⟨fun ⟨_, hdl⟩ => by omega, fun e => nomatch e.1⟩
  | hblank =>
    obtain ⟨-, hline⟩ := (dotsOk_hblank hm).1 hd
    exact ⟨fun ⟨e, hdl⟩ => ⟨rfl, e, by omega⟩, fun ⟨_, e, h1⟩ => ⟨e, by omega⟩⟩
  | vblank =>
    obtain ⟨hly, -, -⟩ := (dotsOk_vblank hm).1 hd
    exact ⟨fun ⟨e, _⟩ => by rw [e] at hly; exact absurd hly (by decide), fun e => nomatch e.1⟩

/-- With the LCD on, the last dot of line 143 is the entry into VBlank at line 144. -/
theorem ppuClock_endsLine143 {s : State} (h : PpuOk s.ppu) (hon : bit s.ppu.lcdc 7 = true)
    (hlast : s.ppu.ly = 143#8 ∧ s.ppu.dotsLine = 455) :
    ppuClock s = lycCompare (enterVBlank (nextLine (countDot (drawStep s)))) := by
  obtain ⟨hdots, hd⟩ := h.on hon
  obtain ⟨hm, hly, h1⟩ := (mode_at_end_of_line143 (fieldsOk_of_ppuOk h) hd hdots).1 hlast
  rw [ppuClock_atEnd hon (by omega), transition_hblank ((countDot_mode s).trans hm), if_pos ((countDot_ly s).trans hly)]

/-- Every other clock leaves the VBlank request and the frame event. -/
theorem ppuClock_events_of_not_last {s : State} (h : PpuOk s.ppu) (hon : bit s.ppu.lcdc 7 = true)
    (hlast : ¬(s.ppu.ly = 143#8 ∧ s.ppu.dotsLine = 455)) :
    (ppuClock s).ifReg.getLsbD 0 = s.ifReg.getLsbD 0 ∧ (ppuClock s).frameDone = s.frameDone := by
  obtain ⟨hdots, hd⟩ := h.on hon
  have hcount : (countDot (drawStep s)).ifReg = s.ifReg ∧ (countDot (drawStep s)).frameDone = s.frameDone := by
    rw [countDot_drawStep]; exact ⟨rfl, rfl⟩
  by_cases hend : s.ppu.dotsRemaining - 1 = 0
  · rw [ppuClock_atEnd hon hend, (lycCompare_events _).1, (lycCompare_events _).2]
    rcases transition_events (countDot (drawStep s)) with ⟨hm, hly, -⟩ | ⟨-, hif, hframe⟩
    · rw [countDot_mode] at hm
      rw [countDot_ly] at hly
      exact absurd ((mode_at_end_of_line143 (fieldsOk_of_ppuOk h) hd hdots).2 ⟨hm, hly, by omega⟩) hlast
    · exact ⟨hif.trans (congrArg (·.getLsbD 0) hcount.1), hframe.trans hcount.2⟩
  · rw [ppuClock_inMode hon hend, (lycCompare_events _).1, (lycCompare_events _).2, hcount.1, hcount.2]
    exact ⟨rfl, rfl⟩

/-- Settles O55: with the LCD on, the clock's transition is the entry into VBlank exactly at the last dot of line 143. -/
theorem vBlankAtTheEndOfLine143 : Obligations.VBlankAtTheEndOfLine143 := by
  unfold Obligations.VBlankAtTheEndOfLine143
  intro s h
  cases hon : s.ppu.lcdc.getLsbD 7 with
  | false =>
    rw [ppuClock_off hon]
    exact ⟨(Bool.or_false _).symm, (Bool.or_false _).symm, fun e => nomatch e⟩
  | true =>
    by_cases hlast : s.ppu.ly = 143#8 ∧ s.ppu.dotsLine = 455
    · have hly : (nextLine (countDot (drawStep s))).ppu.ly = 144#8 := by
        rw [nextLine_ppu]; exact congrArg (· + 1#8) ((countDot_ly s).trans hlast.1)
      rw [ppuClock_endsLine143 h.ppu hon hlast, (lycCompare_events _).1, (lycCompare_events _).2, lycCompare_frame,
        enterVBlank_record, decide_eq_true hlast]
      exact ⟨by simp, (Bool.or_true _).symm, fun _ => ⟨rfl, hly, rfl⟩⟩
    · obtain ⟨hif, hframe⟩ := ppuClock_events_of_not_last h.ppu hon hlast
      rw [hif, hframe, decide_eq_false hlast]
      exact ⟨(Bool.or_false _).symm, (Bool.or_false _).symm, fun e => nomatch e⟩

/-! ### Pixels (R352, R360, R370) -/

/-- The cursor stands at the pixel of the dot, once past the start-up delay. -/
theorem cursor_eq {p : Ppu} (h : PpuOk p) (hon : bit p.lcdc 7 = true) (hm : p.mode = .drawing) :
    p.px = min 160 (p.dotsLine - (80 + p.drawDelay)) := by
  obtain ⟨-, -, -, -, hpx⟩ := (dotsOk_drawing hm).1 (h.on hon).2
  exact hpx

/-- Settles O56: the cursor of the invariant is the dot's pixel, and a pixel is one cell of the frame buffer. -/
theorem onePixelPerDrawingDot : Obligations.OnePixelPerDrawingDot := by
  unfold Obligations.OnePixelPerDrawingDot
  refine ⟨fun s h => ?_, fun fb x y x' y' c hx hx' => ?_, fun cfg => ⟨rfl, rfl, rfl, rfl⟩⟩
  · dsimp only
    rw [ppuClock_fb]
    split
    · rename_i hdraws
      obtain ⟨hon, hm, hlate, hx⟩ := hdraws
      have hpx := cursor_eq h.ppu hon hm
      rw [Nat.min_eq_right (by omega)] at hpx
      rw [if_pos (show bit s.ppu.lcdc 7 = true from hon), ← hpx]
      rcases drawStep_cases s with ⟨-, e⟩ | ⟨hno, -⟩
      · rw [e]
      · exact absurd ⟨hm, hlate, by omega⟩ hno
    · rename_i hidle
      split
      · rename_i hon
        rcases drawStep_cases s with ⟨⟨hm, hlate, hx⟩, -⟩ | ⟨-, e⟩
        · have hpx := cursor_eq h.ppu hon hm
          exact absurd ⟨hon, hm, hlate, by omega⟩ hidle
        · rw [e]
      · rfl
  · have hcell : 160 * y' + x' = 160 * y + x ↔ x' = x ∧ y' = y := by omega
    simp only [frameBuffer_read_write, hcell]

end Sys2Proof.Proofs
end

section
/-! The DMA Unit's clock (60_exceptions.md R342): the copy of a page to OAM byte by byte, and its frame. -/

namespace Sys2Proof.Proofs

open Sys2Proof.Machine Sys2Proof.Laws

/-! ### The frame -/

theorem dmaCopy_mem_read (s : State) {k : Nat} (hk : k < 0xFE00 ∨ 0xFE9F < k) : (dmaCopy s).mem.read k = s.mem.read k :=
  dmaCopyBytes_mem_read (List.range 160) s (fun _ hi => List.mem_range.1 hi) hk

theorem dmaClock_mem_read (s : State) {k : Nat} (hk : k < 0xFE00 ∨ 0xFE9F < k) : (dmaClock s).mem.read k = s.mem.read k := by
  unfold dmaClock
  split
  · rw [dmaCount_mem]
    split
    · exact dmaCopy_mem_read s hk
    · rfl
  · rfl

/-! ### The copy -/

/-- A stored byte's read depends on its cell only; a unit's register, on no stored byte. -/
theorem rawRead_congr_mem {s : State} {m : Memory} {a : Word}
    (hcell : ∀ k, target a = .cell k → m.read k = s.mem.read k) (haudio : inAudio a → m.read a.toNat = s.mem.read a.toNat) :
    rawRead { s with mem := m } a = rawRead s a := by
  unfold rawRead
  cases ht : target a with
  | cell k => exact hcell k ht
  | audio => simp only [audioRead, audioReadOrMask, haudio ((target_audio_iff a).1 ht)]
  | _ => rfl

/-- A byte of the source page is read before the copy reaches it, if it stands in OAM at all. -/
theorem rawRead_source {s : State} {m : Memory} {source : Byte} {n : Nat} (hn : n < 160)
    (hm : ∀ k, k < 0xFE00 ∨ 0xFE00 + n ≤ k → m.read k = s.mem.read k) :
    rawRead { s with mem := m } (dmaSourceAddr source n) = rawRead s (dmaSourceAddr source n) := by
  have haddr : (dmaSourceAddr source n).toNat = 256 * source.toNat + n := by
    rw [dmaSourceAddr, BitVec.toNat_ofNat]; omega
  refine rawRead_congr_mem (fun k hk => hm k ?_) (fun h => hm _ ?_)
  · have := (target_cell hk).1
    omega
  · unfold inAudio at h
    omega

/-- After `n` bytes OAM holds the first `n` bytes of the page as they stood, and nothing else has changed. -/
theorem dmaCopyBytes_range (s : State) (n : Nat) (hn : n ≤ 160) :
    let t := (List.range n).foldl dmaCopyByte s
    (∀ i, i < n → t.mem.read (0xFE00 + i) = rawRead s (dmaSourceAddr s.dma.source i)) ∧
      ∀ k, k < 0xFE00 ∨ 0xFE00 + n ≤ k → t.mem.read k = s.mem.read k := by
  induction n with
  | zero => exact ⟨fun i hi => absurd hi (Nat.not_lt_zero i), fun _ _ => rfl⟩
  | succ n ih =>
    obtain ⟨hcopied, hrest⟩ := ih (by omega)
    have hframe := dmaCopyBytes_eq (List.range n) s
    dsimp only
    rw [List.range_succ, List.foldl_append, List.foldl_cons, List.foldl_nil]
    generalize (List.range n).foldl dmaCopyByte s = t at *
    have hval : rawRead t (dmaSourceAddr t.dma.source n) = rawRead s (dmaSourceAddr s.dma.source n) := by
      rw [hframe]; exact rawRead_source hn hrest
    have hmem (k : Nat) : (dmaCopyByte t n).mem.read k =
        if k = 0xFE00 + n then rawRead s (dmaSourceAddr s.dma.source n) else t.mem.read k :=
      hval ▸ memory_read_write t.mem _ k _
    refine ⟨fun i hi => ?_, fun k hk => ?_⟩
    · rw [hmem]
      split
      · obtain rfl : i = n := by omega
        rfl
      · exact hcopied i (by omega)
    · rw [hmem, if_neg (by omega)]
      exact hrest k (by omega)

/-- Settles O52: the countdown by the unit's clock, the copy by induction over the page's bytes. -/
theorem transferCopiesThePage : Obligations.TransferCopiesThePage := by
  unfold Obligations.TransferCopiesThePage
  intro s
  refine ⟨fun hidle => ?_, fun hbusy => ⟨?_, dmaClock_eq s, fun hlater => ?_, fun hfirst => ⟨fun i hi => ?_, fun k hk => ?_⟩⟩⟩
  · rw [dmaClock, if_neg (ne_true_of_eq_false hidle)]
  · rw [dmaClock_dma, if_pos hbusy]
  · rw [dmaClock, if_pos hbusy, if_neg hlater, dmaCount_mem]
  · rw [dmaClock, if_pos hbusy, if_pos hfirst, dmaCount_mem]
    exact (dmaCopyBytes_range s 160 le_rfl).1 i hi
  · exact dmaClock_mem_read s hk

end Sys2Proof.Proofs
end

section
/-! The statements about the engine and about whole runs (40_engine_system.md R110 to R126, 60_exceptions.md R300, R302): the
Processor's tick case by case, and inductions over ticks. -/

namespace Sys2Proof.Proofs

open Sys2Proof.Machine Sys2Proof.Laws

/-! ### The Processor's tick, case by case (R111, R112) -/

theorem cpuTick_between {s : State} (h : s.cpu.phase ≠ 0) : cpuTick s = .next (advancePhase s) := by
  rw [cpuTick, if_neg h]; rfl

theorem cpuTick_boundary {s : State} (h : s.cpu.phase = 0) : cpuTick s = mapNext advancePhase (mCycleStep s) := by
  rw [cpuTick, if_pos h]

theorem pending_iff (s : State) : pending s = true ↔ s.ieReg &&& s.ifReg &&& 0x1F#8 ≠ 0#8 := decide_eq_true_iff

theorem mCycleStep_waits {s : State} (hh : s.cpu.halted = true) (hp : s.ieReg &&& s.ifReg &&& 0x1F#8 = 0#8) :
    mCycleStep s = .next s := by
  rw [mCycleStep, if_pos hh, if_neg (by rw [pending_iff]; exact fun h => h hp)]

theorem mCycleStep_wakes {s : State} (hh : s.cpu.halted = true) (hp : s.ieReg &&& s.ifReg &&& 0x1F#8 ≠ 0#8) :
    mCycleStep s = .next (onCpu (fun c => { c with halted := false }) s) := by
  rw [mCycleStep, if_pos hh, if_pos ((pending_iff s).2 hp)]

theorem mCycleStep_counts {s : State} (hh : s.cpu.halted = false) (hb : s.cpu.busy ≠ 0) :
    mCycleStep s = .next (onCpu (fun c => { c with busy := c.busy - 1 }) s) := by
  rw [mCycleStep, if_neg (ne_true_of_eq_false hh), if_pos hb]

theorem mCycleStep_dispatches {s : State} (hh : s.cpu.halted = false) (hb : s.cpu.busy = 0) (hime : s.cpu.ime = true)
    (hp : s.ieReg &&& s.ifReg &&& 0x1F#8 ≠ 0#8) : mCycleStep s = .next (dispatch s) := by
  rw [mCycleStep, if_neg (ne_true_of_eq_false hh), if_neg (not_not_intro hb), if_pos (by rw [hime, (pending_iff s).2 hp]; rfl)]

theorem mCycleStep_executes {s : State} (hh : s.cpu.halted = false) (hb : s.cpu.busy = 0)
    (hirq : s.cpu.ime = false ∨ s.ieReg &&& s.ifReg &&& 0x1F#8 = 0#8) :
    mCycleStep s = exec (fetchedInstr s) (afterFetch s) := by
  have hnone : ¬((s.cpu.ime && pending s) = true) := by
    rw [Bool.and_eq_true, pending_iff]
    exact fun ⟨hime, hp⟩ => hirq.elim (fun e => by simp [e] at hime) hp
  rw [mCycleStep, if_neg (ne_true_of_eq_false hh), if_neg (not_not_intro hb), if_neg hnone]

/-- Settles O33: each case is one branch of the Processor's tick, and an interrupt entry leaves the phase. -/
theorem boundariesWithoutAnInstruction : Obligations.BoundariesWithoutAnInstruction := by
  unfold Obligations.BoundariesWithoutAnInstruction
  intro s
  refine ⟨cpuTick_between, fun h0 hh hp => ?_, fun h0 hh hp => ?_, fun h0 hh hb => ?_, fun h0 hh hb hime hp => ?_⟩
  · rw [cpuTick_boundary h0, mCycleStep_waits hh hp]; rfl
  · rw [cpuTick_boundary h0, mCycleStep_wakes hh hp]; rfl
  · rw [cpuTick_boundary h0, mCycleStep_counts hh hb]; rfl
  · rw [cpuTick_boundary h0, mCycleStep_dispatches hh hb hime hp, ← (dispatch_reaches s).phase]; rfl

/-! ### A tick -/

theorem mapNext_mapNext (g g' : State → State) (r : Result) : mapNext g (mapNext g' r) = mapNext (fun s => g (g' s)) r := by
  cases r <;> rfl

/-- Three bytes decode to what the decoder selects. -/
theorem eq_decodeBytes_of_decode {b0 b1 b2 : Byte} {i : Instr} {rest : List Byte} (h : decode [b0, b1, b2] = .ok (i, rest)) :
    i = decodeBytes b0 b1 b2 := by
  simp only [decode, List.getD_cons_zero, List.getD_cons_succ] at h
  split at h
  · exact (congrArg Prod.fst (Except.ok.inj h)).symm
  · cases h

/-- Settles O31: the decoded instruction is the fetched one, and the state it runs in is `afterFetch`. -/
theorem stepRunsTheDecodedInstruction : Obligations.StepRunsTheDecodedInstruction := by
  unfold Obligations.StepRunsTheDecodedInstruction
  intro s i rest u p h0 hh hb hirq hdec
  have hfetch : i = fetchedInstr u := eq_decodeBytes_of_decode hdec
  have hcpu : u.cpu = s.cpu := hostTurn_cpu s
  rw [step, oneTick, cpuTick_boundary (hcpu ▸ h0), mapNext_mapNext,
    mCycleStep_executes (s := u) (hcpu ▸ hh) (hcpu ▸ hb) hirq, hfetch]
  rfl

/-- Settles O32: a tick by its definition, with the tick number the Processor's turn leaves; the host's turn by its action. -/
theorem tickOrderAndTheHost : Obligations.TickOrderAndTheHost := by
  unfold Obligations.TickOrderAndTheHost
  refine ⟨fun s => ?_, fun _ _ => rfl, fun s hx => ?_, fun s hx => ?_, fun s hs => ?_, fun s act rest hs => ?_⟩
  · obtain ⟨u, hu, hr, hstep⟩ := step_reaches s
    have htick : (unitsTurn (advancePhase u)).tick = s.tick + 1 := by
      rw [unitsTurn_tick, advancePhase_tick, hr.tick, hostTurn_tick]
    rw [hstep, hu, ← htick]
    rfl
  · rw [audioClock, if_neg (ne_true_of_eq_false hx)]
  · rw [audioClock, if_pos hx]
  · rw [hostTurn, hs]
  · rw [hostTurn, hs]
    simp only [applyHostAct]
    cases act.joypByte <;> cases act.serial <;> cases act.joypad <;>
      simp only [if_true, Bool.false_eq_true, if_false, BitVec.or_zero] <;> rfl

/-- Settles O38: a meaning always completes, so a tick and a run do. -/
theorem nothingEverStops : Obligations.NothingEverStops := by
  unfold Obligations.NothingEverStops
  refine ⟨fun i s => ?_, fun s => ?_, fun n s => ?_⟩
  · obtain ⟨t, ht, -⟩ := exec_reaches i s
    exact ⟨t, ht⟩
  · obtain ⟨_, -, -, ht⟩ := step_reaches s
    exact ⟨_, ht⟩
  · obtain ⟨t, ht, -⟩ := run_keeps (P := fun _ => True) (fun _ _ _ _ => trivial) n s trivial
    exact ⟨t, ht⟩

/-! ### The cost of an instruction (R114) -/

/-- A tick before the next instruction boundary moves the phase, and counts a machine cycle down when it begins one. -/
theorem step_inFlight {s : State} (hh : s.cpu.halted = false) (hfly : s.cpu.phase ≠ 0 ∨ s.cpu.busy ≠ 0) :
    ∃ u, step s = .next u ∧
      u.cpu = { s.cpu with
        busy := if s.cpu.phase = 0 then s.cpu.busy - 1 else s.cpu.busy, phase := s.cpu.phase + 1 } := by
  have hcpu := hostTurn_cpu s
  by_cases h0 : s.cpu.phase = 0
  · refine ⟨_, by
      rw [step, oneTick, cpuTick_boundary (by rw [hcpu]; exact h0),
        mCycleStep_counts (by rw [hcpu]; exact hh) (by rw [hcpu]; exact hfly.resolve_left (not_not_intro h0))]
      rfl, ?_⟩
    rw [unitsTurn_cpu, advancePhase_cpu, onCpu_cpu, hcpu, if_pos h0]
  · refine ⟨_, by rw [step, oneTick, cpuTick_between (by rw [hcpu]; exact h0)]; rfl, ?_⟩
    rw [unitsTurn_cpu, advancePhase_cpu, hcpu, if_neg h0]

theorem phase_after_step {s t : State} (h : step s = .next t) : t.cpu.phase = s.cpu.phase + 1 := by
  obtain ⟨u, -, hr, hu⟩ := step_reaches s
  obtain rfl : t = unitsTurn (advancePhase u) := by simpa [h] using hu
  rw [unitsTurn_cpu, advancePhase_cpu, hr.phase, hostTurn_cpu]

theorem phase_eq_zero_iff (k : Nat) : Fin.ofNat 4 k = 0 ↔ k % 4 = 0 := by
  rw [Fin.ext_iff]; rfl

theorem phase_succ (k : Nat) : Fin.ofNat 4 k + 1 = Fin.ofNat 4 (k + 1) := by
  apply Fin.ext
  simp [Fin.val_add]

/-- Through the ticks to the next boundary the Processor's registers stay, and busy counts down once a machine cycle. -/
theorem run_inFlight {s t : State} (h0 : s.cpu.phase = 0) (hstep : step s = .next t) (hh : t.cpu.halted = false) {k : Nat}
    (h1 : 1 ≤ k) (hk : k ≤ 4 * (t.cpu.busy + 1)) :
    ∃ u : State, core.run k s = .next u ∧
      u.cpu = { t.cpu with busy := t.cpu.busy - (k - 1) / 4, phase := Fin.ofNat 4 k } := by
  induction k, h1 using Nat.le_induction with
  | base =>
    refine ⟨t, run_succ hstep 0, ?_⟩
    have hphase : t.cpu.phase = Fin.ofNat 4 1 := by rw [phase_after_step hstep, h0]; rfl
    rw [← hphase]
    rfl
  | succ k h1 ih =>
    obtain ⟨u, hu, hcpu⟩ := ih (by omega)
    have hfly : u.cpu.phase ≠ 0 ∨ u.cpu.busy ≠ 0 := by
      rw [hcpu]
      dsimp only
      rw [ne_eq, phase_eq_zero_iff]
      omega
    obtain ⟨v, hv, hcpu'⟩ := step_inFlight (s := u) (by rw [hcpu]; exact hh) hfly
    refine ⟨v, run_snoc hu hv, ?_⟩
    have hbusy : (if k % 4 = 0 then t.cpu.busy - (k - 1) / 4 - 1 else t.cpu.busy - (k - 1) / 4) =
        t.cpu.busy - (k + 1 - 1) / 4 := by
      split <;> omega
    rw [hcpu', hcpu]
    simp only [phase_eq_zero_iff, phase_succ, hbusy]

/-- Settles O34, by induction over the ticks to the next boundary. -/
theorem costIsFourTicksAMachineCycle : Obligations.CostIsFourTicksAMachineCycle := by
  unfold Obligations.CostIsFourTicksAMachineCycle
  intro s t h0 _ _ hstep hh
  refine ⟨fun k => run_inFlight h0 hstep hh, ?_⟩
  obtain ⟨u, hu, hcpu⟩ := run_inFlight h0 hstep hh (k := 4 * (t.cpu.busy + 1)) (by omega) le_rfl
  have hbusy : t.cpu.busy - (4 * (t.cpu.busy + 1) - 1) / 4 = 0 := by omega
  have hphase : Fin.ofNat 4 (4 * (t.cpu.busy + 1)) = 0 := (phase_eq_zero_iff _).2 (by omega)
  exact ⟨u, hu, by rw [hcpu, hbusy, hphase]⟩

end Sys2Proof.Proofs
end

section
/-! The statements about runs that something makes inert: a stopped Processor (40_engine_system.md R126), a DMA transfer
(60_exceptions.md R341 to R343), and what no tick can change (10_state.md R30, 20_memory.md R57, R58). -/

namespace Sys2Proof.Proofs

open Sys2Proof.Machine Sys2Proof.Laws Sys2Proof.Claims

/-! ### Plain addresses -/

/-- A plain address reaches a stored byte, whose home is in no I/O page but HRAM, and in OAM only for an address there. -/
theorem target_of_plain {a : Word} (h : plain a) :
    ∃ k, target a = .cell k ∧ (k < 0xFF00 ∨ 0xFF80 ≤ k) ∧
      (0xFE00 ≤ k ∧ k ≤ 0xFE9F → 0xFE00 ≤ a.toNat ∧ a.toNat ≤ 0xFE9F) := by
  unfold plain at h
  by_cases hecho : 0xE000 ≤ a.toNat ∧ a.toNat < 0xFE00
  · exact ⟨_, target_echo hecho.1 hecho.2, by omega, by omega⟩
  · exact ⟨_, target_stored (by omega), by omega, by omega⟩

theorem rawRead_of_cell {a : Word} {k : Nat} (h : target a = .cell k) (s : State) : rawRead s a = s.mem.read k := by
  rw [rawRead, h]

/-! ### A stopped Processor (R120, R126) -/

/-- The units' turns write OAM and no other stored byte. -/
theorem unitsTurn_mem_read (s : State) {k : Nat} (hk : k < 0xFE00 ∨ 0xFE9F < k) : (unitsTurn s).mem.read k = s.mem.read k := by
  rw [unitsTurn_mem, dmaClock_mem_read _ hk, timerClock_eq, ppuClock_eq]

/-- The host's turn writes the joypad byte and no other stored byte. -/
theorem hostTurn_mem_read (s : State) {k : Nat} (hk : k ≠ 0xFF00) : (hostTurn s).mem.read k = s.mem.read k := by
  rcases hostTurn_mem s with e | ⟨v, e⟩ <;> rw [e]
  rw [memory_read_write, if_neg hk]

theorem no_pending_of_disabled {v w : Byte} (h : v &&& 0x1F#8 = 0#8) : v &&& w &&& 0x1F#8 = 0#8 := by
  rw [BitVec.and_assoc, BitVec.and_comm w, ← BitVec.and_assoc, h, BitVec.zero_and]

/-- What a state shares with `s` while the Processor is stopped: its registers but the phase, IE, and every stored byte outside the
I/O page and OAM. -/
def SameWhenStopped (s t : State) : Prop :=
  t.cpu = { s.cpu with phase := t.cpu.phase } ∧ t.ieReg = s.ieReg ∧
    ∀ k, (k < 0xFE00 ∨ 0xFE9F < k) → k ≠ 0xFF00 → t.mem.read k = s.mem.read k

/-- A halted Processor with no interrupt enabled does nothing in a tick but move the phase. -/
theorem step_stopped {s t : State} (hh : s.cpu.halted = true) (hie : s.ieReg &&& 0x1F#8 = 0#8) (hstep : step s = .next t) :
    SameWhenStopped s t := by
  have htick : cpuTick (hostTurn s) = .next (advancePhase (hostTurn s)) := by
    by_cases h0 : (hostTurn s).cpu.phase = 0
    · rw [cpuTick_boundary h0, mCycleStep_waits (by rw [hostTurn_cpu]; exact hh)
        (no_pending_of_disabled (by rw [hostTurn_ieReg]; exact hie))]
      rfl
    · exact cpuTick_between h0
  obtain rfl : t = unitsTurn (advancePhase (hostTurn s)) := by
    simpa [step, oneTick, htick, mapNext] using hstep.symm
  refine ⟨?_, ?_, fun k hk hk' => ?_⟩
  · rw [unitsTurn_cpu, advancePhase_cpu, hostTurn_cpu]
  · rw [unitsTurn_ieReg, advancePhase_ieReg, hostTurn_ieReg]
  · rw [unitsTurn_mem_read _ hk, advancePhase_mem, hostTurn_mem_read _ hk']

theorem SameWhenStopped.trans {s t u : State} (h : SameWhenStopped s t) (h' : SameWhenStopped t u) : SameWhenStopped s u := by
  obtain ⟨hcpu, hie, hmem⟩ := h
  obtain ⟨hcpu', hie', hmem'⟩ := h'
  refine ⟨by rw [hcpu', hcpu], hie'.trans hie, fun k hk hk' => (hmem' k hk hk').trans (hmem k hk hk')⟩

/-- Settles O35, by induction over the ticks: each leaves what a stopped Processor's state shares with the first. -/
theorem stoppedProcessorNeverRunsAgain : Obligations.StoppedProcessorNeverRunsAgain := by
  unfold Obligations.StoppedProcessorNeverRunsAgain
  intro n s hh hie
  have hstep : ∀ t u, SameWhenStopped s t → step t = .next u → SameWhenStopped s u := fun t u ht hu =>
    ht.trans (step_stopped (by rw [ht.1]; exact hh) (by rw [ht.2.1]; exact hie) hu)
  obtain ⟨t, ht, hcpu, hie', hmem⟩ := run_keeps hstep n s ⟨rfl, rfl, fun _ _ _ => rfl⟩
  refine ⟨t, ht, hcpu, hie', fun a ha hoam => ?_⟩
  obtain ⟨k, hk, hpage, hoam'⟩ := target_of_plain ha
  rw [rawRead_of_cell hk, rawRead_of_cell hk]
  exact hmem k (by omega) (by omega)

/-! ### A transfer (R341 to R343) -/

/-- In HRAM, the only place a transfer leaves open, a store reaches a stored byte. -/
theorem rawWrite_dma_of_hram {a : Word} (ha : inHram a = true) (v : Byte) (s : State) : (rawWrite a v s).dma = s.dma := by
  have hrange : 0xFF80 ≤ a.toNat ∧ a.toNat ≤ 0xFFFE := of_decide_eq_true ha
  rw [rawWrite, target_stored (by omega)]

/-- The Processor cannot touch a transfer in progress: its stores outside HRAM are discarded (20_memory.md R53). -/
theorem dma_of_reaches {s t : State} (h : Reaches s t) (hbusy : s.dma.inProgress = true) : t.dma = s.dma := by
  refine h.keeps (P := fun x => x.dma = s.dma) (fun _ _ _ h => h) (fun a v x hx => ?_) (fun _ h => h) (fun _ _ h => h) rfl
  rcases wr8_cases a v x with ⟨-, e⟩ | ⟨hopen, e⟩ <;> rw [e]
  · exact hx
  · refine (rawWrite_dma_of_hram ?_ v x).trans hx
    simpa [dmaBlocks, hx, hbusy] using hopen

/-- A tick of a transfer counts it down, and nothing else of the unit changes. -/
theorem step_transfer {s t : State} (hbusy : s.dma.inProgress = true) (hstep : step s = .next t) :
    t.dma = { s.dma with remaining := s.dma.remaining - 1, inProgress := decide (s.dma.remaining - 1 ≠ 0) } := by
  obtain ⟨u, -, hr, hu⟩ := step_reaches s
  obtain rfl : t = unitsTurn (advancePhase u) := by simpa [hstep] using hu
  have hdma : (advancePhase u).dma = s.dma := by
    rw [advancePhase_dma, dma_of_reaches hr (by rw [hostTurn_dma]; exact hbusy), hostTurn_dma]
  rw [unitsTurn_dma, hdma, if_pos hbusy]

/-- Settles O53, by induction over the ticks of the transfer. -/
theorem transferRunsToCompletion : Obligations.TransferRunsToCompletion := by
  unfold Obligations.TransferRunsToCompletion
  intro s h hbusy k hk
  have hleft : decide (0 < s.dma.remaining) = true := h.dma.inProgress.symm.trans hbusy
  induction k with
  | zero => exact ⟨s, rfl, rfl, rfl, h.dma.inProgress⟩
  | succ k ih =>
    obtain ⟨t, ht, hsource, hremaining, hprogress⟩ := ih (by omega)
    obtain ⟨_, -, -, hu⟩ := step_reaches t
    have hdma := step_transfer (hprogress.trans (decide_eq_true (by omega))) hu
    refine ⟨_, run_snoc ht hu, ?_⟩
    rw [hdma, hsource, hremaining]
    exact ⟨rfl, by dsimp only; omega, decide_eq_decide.2 (by omega)⟩

/-! ### What no tick changes -/

/-- The image, the choice of collaborators, and the default collaborators' own state are the same. -/
def SameCollaborators (s t : State) : Prop :=
  t.cart.image = s.cart.image ∧ t.cart.external = s.cart.external ∧ t.audio.external = s.audio.external ∧
    (s.cart.external = false → t.cart = s.cart) ∧ (s.audio.external = false → t.audio = s.audio)

theorem SameCollaborators.refl (s : State) : SameCollaborators s s := ⟨rfl, rfl, rfl, fun _ => rfl, fun _ => rfl⟩

theorem SameCollaborators.of_eq {s t : State} (hc : t.cart = s.cart) (ha : t.audio = s.audio) : SameCollaborators s t := by
  unfold SameCollaborators
  rw [hc, ha]
  exact SameCollaborators.refl s

theorem SameCollaborators.trans {s t u : State} (h : SameCollaborators s t) (h' : SameCollaborators t u) :
    SameCollaborators s u := by
  obtain ⟨himage, hcart, haudio, hcart', haudio'⟩ := h
  obtain ⟨himage₁, hcart₁, haudio₁, hcart₁', haudio₁'⟩ := h'
  exact ⟨himage₁.trans himage, hcart₁.trans hcart, haudio₁.trans haudio,
    fun hx => (hcart₁' (hcart.trans hx)).trans (hcart' hx), fun hx => (haudio₁' (haudio.trans hx)).trans (haudio' hx)⟩

/-- An undescribed collaborator is told of a write, and a default one is not (20_memory.md R57, R58). -/
theorem sameCollaborators_rawWrite (a : Word) (v : Byte) (s : State) : SameCollaborators s (rawWrite a v s) := by
  unfold rawWrite
  cases target a with
  | cart =>
    dsimp only
    unfold Cart.write
    split
    · exact ⟨rfl, rfl, rfl, fun e => by simp_all, fun _ => rfl⟩
    · exact .refl s
  | audio =>
    dsimp only
    unfold audioWrite
    split
    · exact ⟨rfl, rfl, rfl, fun _ => rfl, fun e => by simp_all⟩
    · exact .of_eq rfl rfl
  | lcdc => dsimp only; rw [writeLcdc_eq]; exact .of_eq rfl rfl
  | _ => exact .of_eq rfl rfl

theorem sameCollaborators_of_reaches {s t : State} (h : Reaches s t) : SameCollaborators s t :=
  h.keepsBus (P := SameCollaborators s) (fun _ _ _ h => h) (fun a v x h => h.trans (sameCollaborators_rawWrite a v x))
    (fun _ h => h) (fun _ _ h => h) (.refl s)

theorem sameCollaborators_unitsTurn (s : State) : SameCollaborators s (unitsTurn s) := by
  have hunits : SameCollaborators s (dmaClock (timerClock (ppuClock s))) := by
    rw [dmaClock_eq, timerClock_eq, ppuClock_eq]; exact .of_eq rfl rfl
  refine hunits.trans ?_
  unfold unitsTurn audioClock
  dsimp only
  split
  · exact ⟨rfl, rfl, rfl, fun _ => rfl, fun e => by simp_all⟩
  · exact .of_eq rfl rfl

/-- Settles O43: the host's turn, what the Processor reaches, and the units' turns each keep the collaborators. -/
theorem parametersNeverChange : Obligations.ParametersNeverChange := by
  unfold Obligations.ParametersNeverChange
  intro s t hstep
  obtain ⟨u, -, hr, hu⟩ := step_reaches s
  obtain rfl : t = unitsTurn (advancePhase u) := by simpa [hstep] using hu
  have hhost : SameCollaborators s (hostTurn s) := .of_eq (hostTurn_cart s) (hostTurn_audio s)
  have hcpu : SameCollaborators (hostTurn s) (advancePhase u) := (sameCollaborators_of_reaches hr).trans (.of_eq rfl rfl)
  exact ⟨by rw [unitsTurn_cfg, advancePhase_cfg, hr.cfg, hostTurn_cfg],
    (hhost.trans hcpu).trans (sameCollaborators_unitsTurn _)⟩

end Sys2Proof.Proofs
end

section
/-! The statements about the register file (10_state.md R11, R12) and the system instructions (40_engine_system.md R118 to R125), and
the halves of a word in the statements' terms. -/

namespace Sys2Proof.Proofs

open Sys2Proof.Machine Sys2Proof.Laws Sys2Proof.Claims

/-! ### Words and their halves (00_scope.md R6) -/

theorem hiByte_eq_extract (w : Word) : hiByte w = w.extractLsb' 8 8 := by
  rw [hiByte, ← BitVec.toNat_inj, BitVec.toNat_ofNat, BitVec.extractLsb'_toNat, Nat.shiftRight_eq_div_pow]

theorem loByte_eq_extract (w : Word) : loByte w = w.extractLsb' 0 8 := by
  rw [loByte, ← BitVec.toNat_inj, BitVec.toNat_ofNat, BitVec.extractLsb'_toNat, Nat.shiftRight_zero]

theorem toNat_join (hi lo : Byte) : (join hi lo).toNat = 256 * hi.toNat + lo.toNat := by
  rw [join, BitVec.toNat_ofNat]; omega

theorem join_eq_append (hi lo : Byte) : join hi lo = hi ++ lo := by
  rw [← BitVec.toNat_inj, toNat_join, BitVec.toNat_append, Nat.shiftLeft_eq, ← Nat.shiftLeft_eq,
    ← Nat.shiftLeft_add_eq_or_of_lt lo.isLt, Nat.shiftLeft_eq, Nat.mul_comm]

/-- Settles O1: the accessors by their definitions, the pairs by `join`, the flags by `packFlags`. -/
theorem registerFileAndFlagByte : Obligations.RegisterFileAndFlagByte := by
  unfold Obligations.RegisterFileAndFlagByte
  intro s k r q v w z n h c
  simp only [← hiByte_eq_extract, ← loByte_eq_extract]
  refine ⟨⟨rfl, rfl, rfl, rfl, rfl, rfl, rfl⟩, ⟨rfl, rfl, rfl, rfl, rfl, rfl, rfl⟩, ⟨rfl, rfl, rfl, rfl⟩, ⟨rfl, rfl, rfl, rfl⟩,
    ⟨rfl, rfl, rfl, rfl⟩, ⟨rfl, rfl, rfl, rfl⟩, ⟨rfl, rfl⟩, reg_setReg k r q v, by cases r <;> rfl, toNat_join _ _,
    toNat_join _ _, toNat_join _ _, toNat_join _ _, ⟨rfl, bc_setBc k w⟩, ⟨rfl, de_setDe k w⟩, ⟨rfl, hl_setHl k w⟩, rfl,
    fZ_packFlags k z n h c, fN_packFlags k z n h c, fH_packFlags k z n h c, fC_packFlags k z n h c, packFlags_low z n h c,
    rfl, rfl, rfl, rfl⟩

/-! ### The system instructions -/

/-- Settles O2: each form changes the Processor's registers only. -/
theorem systemInstructions : Obligations.SystemInstructions := by
  unfold Obligations.SystemInstructions
  exact fun s u => ⟨⟨rfl, runsKeepingMemory_of_exec rfl⟩, ⟨rfl, runsKeepingMemory_of_exec (exec_undefRow u s)⟩,
    ⟨rfl, runsKeepingMemory_of_exec rfl⟩, ⟨rfl, runsKeepingMemory_of_exec rfl⟩, ⟨rfl, runsKeepingMemory_of_exec rfl⟩⟩

end Sys2Proof.Proofs
end

section
/-! The statements about the Timer Unit (60_exceptions.md R322 to R332) and STOP (40_engine_system.md R121): the clock and the counter
reset in one record each, and the timeline of an overflow as a closed form. -/

namespace Sys2Proof.Proofs

open Sys2Proof.Machine Sys2Proof.Laws Sys2Proof.Claims

/-! ### The counter reset (R328) -/

/-- With the counter at 0 the sampled bit is 0, so a bit that was 1 falls. -/
theorem resetCounter_record (t : Timer) :
    t.resetCounter = { t with
      counter := 0#16
      delayedBit := false
      tima := if t.delayedBit then t.tima + 1#8 else t.tima
      overflowPending := (t.delayedBit && decide (t.tima = 0xFF#8)) || t.overflowPending
      preReload := if t.delayedBit = true ∧ t.tima = 0xFF#8 then 4 else t.preReload } := by
  have hsample : Timer.sample { t with counter := 0#16 } = false := by simp [Timer.sample]
  rw [Timer.resetCounter, edge_eq, hsample]
  simp only [Bool.not_false, Bool.and_true, Bool.and_eq_true, decide_eq_true_eq]

/-- Settles O51: each write by the window it falls in. -/
theorem timerRegisterWrites : Obligations.TimerRegisterWrites := by
  unfold Obligations.TimerRegisterWrites
  refine fun t v => ⟨resetCounter_record t, fun hA => ?_, fun hA hB how => ?_, fun hA hB how => ?_, fun hB => ?_, fun hB => ?_, rfl⟩
  · simp only [Timer.writeTima, if_pos hA, and_self]
  · simp only [Timer.writeTima, hA, Nat.lt_irrefl, if_false, if_pos hB]
  · simp only [Timer.writeTima, hA, hB, Nat.lt_irrefl, if_false]
  · simp only [Timer.writeTma, if_pos hB]
  · simp only [Timer.writeTma, hB, Nat.lt_irrefl, if_false]

/-- Settles O3: STOP is the counter reset of a DIV write, which disturbs DIV and TIMA only. -/
theorem stopResetsTheTimerCounter : Obligations.StopResetsTheTimerCounter := by
  unfold Obligations.StopResetsTheTimerCounter
  intro s n
  have htima : (if s.timer.delayedBit then (if s.timer.tima = 0xFF#8 then 0#8 else s.timer.tima + 1#8) else s.timer.tima) =
      if s.timer.delayedBit then s.timer.tima + 1#8 else s.timer.tima := by
    by_cases h : s.timer.tima = 0xFF#8 <;> simp [h]
  have hexec : exec (.stop n) s = .next { s with cpu := { s.cpu with busy := 0 }, timer := s.timer.resetCounter } := rfl
  refine ⟨rfl, by rw [hexec, htima, resetCounter_record], fun t ht a hdiv htima => ?_⟩
  obtain rfl : t = { s with cpu := { s.cpu with busy := 0 }, timer := s.timer.resetCounter } := by simpa [hexec] using ht.symm
  have hframe : ¬ Disturbs s (target 0xFF04#16) (target a) := by
    rintro (h | h)
    · exact hdiv (BitVec.eq_of_toNat_eq (target_registerAt h (by decide)))
    · exact htima (BitVec.eq_of_toNat_eq (target_registerAt h (by decide)))
  exact rawRead_rawWrite_of_not_disturbs hdiv hframe 0#8

/-! ### The clock (R323) -/

/-- One clock in one record. -/
theorem clock_record (t : Timer) :
    let ends := decide (t.preReload = 1)
    let tima := if ends then t.reloadOverride.getD t.tma else t.tima
    let new := Timer.sample { t with counter := t.counter + 1#16 }
    let fell := t.delayedBit && !new
    t.clock = { t with
      counter := t.counter + 1#16
      delayedBit := new
      tima := if fell then tima + 1#8 else tima
      preReload := if fell && decide (tima = 0xFF#8) then 4 else t.preReload - 1
      overflowPending := (fell && decide (tima = 0xFF#8)) || (t.overflowPending && !ends)
      postReload := if ends then 4 else t.postReload - 1
      reloadOverride := if ends then none else t.reloadOverride } := by
  have hsample : Timer.sample { t.windows with counter := t.windows.counter + 1#16 } =
      Timer.sample { t with counter := t.counter + 1#16 } := by rw [windows_eq]; rfl
  simp only [decide_eq_true_eq]
  rw [Timer.clock, Timer.count, edge_eq, hsample, windows_eq]

/-! ### The timeline of an overflow (R326, R327, R332) -/

theorem iter_succ {α : Type} (f : α → α) (k : Nat) (x : α) : iter f (k + 1) x = f (iter f k x) := by
  induction k generalizing x with
  | zero => rfl
  | succ k ih => exact ih (f x)

/-- A counter bit from 3 up that is 0 cannot rise and fall again within eight clocks. -/
theorem counter_bit_holds {c : Word} {i : Nat} (hi : i = 9 ∨ i = 3 ∨ i = 5 ∨ i = 7) (h0 : c.getLsbD i = false) {j : Nat} (hj : j ≤ 7)
    (h1 : (c + BitVec.ofNat 16 j).getLsbD i = true) : (c + BitVec.ofNat 16 (j + 1)).getLsbD i = true := by
  have hc := c.isLt
  simp only [BitVec.getLsbD, Nat.testBit_eq_decide_div_mod_eq, decide_eq_true_eq, decide_eq_false_iff_not, BitVec.toNat_add,
    BitVec.toNat_ofNat] at h0 h1 ⊢
  rcases hi with rfl | rfl | rfl | rfl <;> omega

theorem selectedBit_cases (tac : Byte) : selectedBit tac = 9 ∨ selectedBit tac = 3 ∨ selectedBit tac = 5 ∨ selectedBit tac = 7 := by
  revert tac; decide

/-- The sampled bit after `k` clocks. -/
def sampleAfter (t : Timer) (k : Nat) : Bool := Timer.sample { t with counter := t.counter + BitVec.ofNat 16 k }

/-- If the first clock samples 0, none of the next eight sees the sampled bit fall, whatever the select and the counter. -/
theorem sample_does_not_fall {t : Timer} (h : sampleAfter t 1 = false) {j : Nat} (hj : j ≤ 7)
    (hk : sampleAfter t (j + 1) = true) : sampleAfter t (j + 2) = true := by
  have hbit (m : Nat) : sampleAfter t (m + 1) =
      ((t.counter + 1#16 + BitVec.ofNat 16 m).getLsbD (selectedBit t.tac) && t.tac.getLsbD 2) := by
    rw [BitVec.add_assoc, ← BitVec.ofNat_add, Nat.add_comm 1]; rfl
  rw [hbit, Bool.and_eq_true] at hk ⊢
  rw [hbit 0, hk.2, Bool.and_true, BitVec.add_zero] at h
  exact ⟨counter_bit_holds (selectedBit_cases t.tac) h hj hk.1, hk.2⟩

/-- The timer `k` clocks after the last one before an overflow, for `k` from 1 to 9: window A, the reload, window B. -/
def overflowTimeline (t : Timer) (k : Nat) : Timer :=
  { t with
    counter := t.counter + BitVec.ofNat 16 k
    delayedBit := sampleAfter t k
    tima := if k ≤ 4 then 0x00#8 else t.tma
    preReload := if 1 ≤ k ∧ k ≤ 4 then 5 - k else 0
    postReload := if 5 ≤ k ∧ k ≤ 8 then 9 - k else 0
    overflowPending := decide (k ≤ 4) }

theorem sample_overflowTimeline (t : Timer) (k : Nat) :
    Timer.sample { overflowTimeline t k with counter := (overflowTimeline t k).counter + 1#16 } = sampleAfter t (k + 1) := by
  simp only [sampleAfter, Timer.sample, overflowTimeline, BitVec.add_assoc, ← BitVec.ofNat_add]

/-- The clock that overflows enters the timeline. -/
theorem clock_overflows {t : Timer} (hpre : t.preReload = 0) (hpost : t.postReload = 0) (hover : t.reloadOverride = none)
    (htima : t.tima = 0xFF#8) (hbit : t.delayedBit = true) (hsample : sampleAfter t 1 = false) :
    t.clock = overflowTimeline t 1 := by
  have hnew : Timer.sample { t with counter := t.counter + 1#16 } = false := hsample
  rw [clock_record, hnew, overflowTimeline, hsample]
  simp [hpre, hpost, hover, htima, hbit]

/-- And the next eight clocks follow it. -/
theorem clock_overflowTimeline {t : Timer} (hover : t.reloadOverride = none) (hsample : sampleAfter t 1 = false) {k : Nat}
    (h1 : 1 ≤ k) (h8 : k ≤ 8) : (overflowTimeline t k).clock = overflowTimeline t (k + 1) := by
  have hfell : (sampleAfter t k && !sampleAfter t (k + 1)) = false := by
    obtain ⟨j, rfl⟩ : ∃ j, k = j + 1 := ⟨k - 1, by omega⟩
    have := sample_does_not_fall hsample (j := j) (by omega)
    cases hj : sampleAfter t (j + 1) <;> simp_all
  have hcounter : t.counter + BitVec.ofNat 16 k + 1#16 = t.counter + BitVec.ofNat 16 (k + 1) := by
    rw [BitVec.add_assoc, ← BitVec.ofNat_add]
  rw [clock_record, sample_overflowTimeline]
  simp only [overflowTimeline, hfell, hcounter, hover]
  generalize t.counter + BitVec.ofNat 16 (k + 1) = counter
  generalize sampleAfter t (k + 1) = sampled
  interval_cases k <;> rfl

theorem iter_clock_overflow {t : Timer} (hpre : t.preReload = 0) (hpost : t.postReload = 0) (hover : t.reloadOverride = none)
    (htima : t.tima = 0xFF#8) (hbit : t.delayedBit = true) (hsample : sampleAfter t 1 = false) {k : Nat} (h1 : 1 ≤ k)
    (h9 : k ≤ 9) : iter Timer.clock k t = overflowTimeline t k := by
  induction k, h1 using Nat.le_induction with
  | base => exact clock_overflows hpre hpost hover htima hbit hsample
  | succ k h1 ih => rw [iter_succ, ih (by omega), clock_overflowTimeline hover hsample h1 (by omega)]

/-- Settles O50: the timer follows its timeline in closed form, clock by clock. -/
theorem timerWindowsTimeline : Obligations.TimerWindowsTimeline := by
  unfold Obligations.TimerWindowsTimeline
  intro t hpre hpost hover htima hbit hsample k h9
  by_cases h0 : k = 0
  · subst h0
    exact ⟨htima, hpre, hpost, by rw [iter, Timer.endsWindowA, hpre]; rfl⟩
  · rw [iter_clock_overflow hpre hpost hover htima hbit hsample (by omega) h9]
    refine ⟨by rw [if_neg h0]; rfl, rfl, rfl, ?_⟩
    refine decide_eq_decide.2 ?_
    dsimp only [overflowTimeline]
    split <;> omega

/-! ### The clock with its request -/

/-- Settles O49: the record of a clock, with its request. -/
theorem timerClock : Obligations.TimerClock := by
  unfold Obligations.TimerClock
  intro s t post ends tima pre counter sel new fell overflows
  have hpost : t.postReload - 1 = post := by simp only [post]; split <;> omega
  have hnew : Timer.sample { t with counter := t.counter + 1#16 } = new := sample_eq _
  have hclock := clock_record t
  rw [hnew, hpost] at hclock
  have hirq (u : State) :
      (if ends then requestIrq irqTimer u else u) = { u with ifReg := if ends then u.ifReg ||| 0x04#8 else u.ifReg } := by
    cases ends <;> rfl
  rw [Machine.timerClock, show s.timer.endsWindowA = ends from rfl, hirq, hclock]

end Sys2Proof.Proofs
end

section
/-! The statements about the bus (20_memory.md R51 to R68): the DMA block, the decode by address, the reach of a store, and loads
after stores. -/

namespace Sys2Proof.Proofs

open Sys2Proof.Machine Sys2Proof.Laws Sys2Proof.Claims

/-! ### The DMA block (R52, R53) -/

theorem dmaBlocks_iff (s : State) (a : Word) :
    dmaBlocks s a = true ↔ s.dma.inProgress = true ∧ ¬ (0xFF80 ≤ a.toNat ∧ a.toNat ≤ 0xFFFE) := by
  rw [dmaBlocks, inHram, Bool.and_eq_true, Bool.not_eq_true', decide_eq_false_iff_not]

theorem rd8_of_open {s : State} {a : Word} (h : dmaBlocks s a = false) : rd8 s a = rawRead s a := by
  rw [rd8, h, if_neg Bool.false_ne_true]

theorem wr8_of_open {s : State} {a : Word} (h : dmaBlocks s a = false) (v : Byte) : wr8 a v s = rawWrite a v s := by
  rw [wr8, h, if_neg Bool.false_ne_true]

/-- Settles O44: the block by its definition. -/
theorem transferBlocksTheProcessor : Obligations.TransferBlocksTheProcessor := by
  unfold Obligations.TransferBlocksTheProcessor
  refine fun s a v => ⟨fun hbusy ha => ?_, fun hopen => ?_⟩
  · have hblock := (dmaBlocks_iff s a).2 ⟨hbusy, ha⟩
    exact ⟨if_pos hblock, if_pos hblock⟩
  · have hblock : dmaBlocks s a = false := by
      rw [Bool.eq_false_iff, Ne, dmaBlocks_iff]
      rintro ⟨hbusy, ha⟩
      rcases hopen with h | h
      · simp [hbusy] at h
      · exact ha h
    exact ⟨rd8_of_open hblock, wr8_of_open hblock v⟩

/-! ### The decode by address (R54 to R59) -/

theorem rawRead_at {a : Word} {n : Nat} {v : Byte} (s : State) (h : rawRead s (BitVec.ofNat 16 n) = v) (ha : a.toNat = n) :
    rawRead s a = v := by
  rwa [← ha, BitVec.ofNat_toNat, BitVec.setWidth_eq] at h

theorem rawWrite_at {a : Word} {n : Nat} {v : Byte} {s t : State} (h : rawWrite (BitVec.ofNat 16 n) v s = t) (ha : a.toNat = n) :
    rawWrite a v s = t := by
  rwa [← ha, BitVec.ofNat_toNat, BitVec.setWidth_eq] at h

theorem rawRead_of_inCart {a : Word} (h : inCart a) (s : State) : rawRead s a = s.cart.read a := by
  rw [rawRead, (target_cart_iff a).2 h]

theorem rawRead_of_inAudio {a : Word} (h : inAudio a) (s : State) :
    rawRead s a = audioRead s a ||| Memory.read s.cfg.audioReadOrMask a.toNat := by
  rw [rawRead, (target_audio_iff a).2 h, audioReadOrMask]

theorem rawWrite_of_inCart {a : Word} (h : inCart a) (v : Byte) (s : State) :
    rawWrite a v s = { s with cart := s.cart.write a v } := by
  rw [rawWrite, (target_cart_iff a).2 h]

theorem rawWrite_of_inAudio {a : Word} (h : inAudio a) (v : Byte) (s : State) : rawWrite a v s = audioWrite a v s := by
  rw [rawWrite, (target_audio_iff a).2 h]

theorem rawWrite_of_cell {a : Word} {k : Nat} (h : target a = .cell k) (v : Byte) (s : State) :
    rawWrite a v s = { s with mem := s.mem.write k v } := by
  rw [rawWrite, h]

/-- Settles O45: the collaborators' ranges, each register at its address, the stored bytes, the echo. -/
theorem readDecode : Obligations.ReadDecode := by
  unfold Obligations.ReadDecode
  intro s a n
  refine ⟨fun h => ?_, fun h => rawRead_of_inAudio h s, fun h hx => ?_, fun h hx => ?_,
    rawRead_at s (hiByte_eq_extract s.timer.counter), rawRead_at s rfl, rawRead_at s rfl, rawRead_at s rfl, rawRead_at s rfl,
    rawRead_at s rfl, rawRead_at s rfl, rawRead_at s rfl, rawRead_at s rfl, rawRead_at s rfl, rawRead_at s rfl,
    rawRead_at s rfl, rawRead_at s rfl, rawRead_at s rfl, rawRead_at s rfl, rawRead_at s rfl, rawRead_at s rfl,
    rawRead_at s rfl, fun h => rawRead_of_cell (target_stored h) s, fun h h' => rawRead_of_cell (target_echo h h') s⟩
  · rw [rawRead_of_inCart h]
    exact ⟨rfl, fun hx => by rw [Cart.read, hx, if_neg Bool.false_ne_true], fun hx => by rw [Cart.read, if_pos hx]⟩
  · rw [rawRead_of_inAudio h, audioRead, if_pos hx]
  · rw [rawRead_of_inAudio h, audioRead, hx, if_neg Bool.false_ne_true]

/-- Settles O46: the collaborators' ranges, each register at its address, the stored bytes, the echo. -/
theorem writeDecode : Obligations.WriteDecode := by
  unfold Obligations.WriteDecode
  intro s a v n
  refine ⟨fun h => ?_, fun h => rawWrite_of_inAudio h v s, fun h hx => ?_, fun h hx => ?_,
    rawWrite_at rfl, rawWrite_at rfl, rawWrite_at rfl, rawWrite_at rfl, rawWrite_at rfl, rawWrite_at rfl, rawWrite_at rfl,
    rawWrite_at rfl, rawWrite_at rfl, rawWrite_at rfl, rawWrite_at rfl, rawWrite_at rfl, rawWrite_at rfl, rawWrite_at rfl,
    rawWrite_at rfl, rawWrite_at rfl, rawWrite_at rfl, rawWrite_at rfl, fun h => rawWrite_of_cell (target_stored h) v s,
    fun h h' => rawWrite_of_cell (target_echo h h') v s⟩
  · rw [rawWrite_of_inCart h]
    exact ⟨rfl, fun hx => by rw [Cart.write, hx, if_neg Bool.false_ne_true], fun hx => by rw [Cart.write, if_pos hx]⟩
  · rw [rawWrite_of_inAudio h, audioWrite, if_pos hx]
  · rw [rawWrite_of_inAudio h, audioWrite, hx, if_neg Bool.false_ne_true]

/-! ### Stores and the loads after them -/

/-- Settles O47: the frame of a Processor store. -/
theorem storeLeavesOtherBytes : Obligations.StoreLeavesOtherBytes := by
  unfold Obligations.StoreLeavesOtherBytes
  exact fun s a b v h => rawRead_wr8_of_not_storeReach h v

theorem wr8_of_cell {s : State} {a : Word} {k : Nat} (hk : target a = .cell k) (hopen : dmaBlocks s a = false) (v : Byte) :
    wr8 a v s = { s with mem := s.mem.write k v } := by
  rw [wr8_of_open hopen, rawWrite_of_cell hk]

/-- An address and its mirror reach one stored byte (R56). -/
theorem target_mirror {a : Word} (h : 0xC000 ≤ a.toNat) (h' : a.toNat < 0xDE00) : target (a + 0x2000#16) = target a := by
  have hmirror : (a + 0x2000#16).toNat = a.toNat + 0x2000 := by rw [BitVec.toNat_add]; simp; omega
  rw [target_echo (by omega) (by omega), hmirror, Nat.add_sub_cancel, target_stored (by omega)]

theorem rawRead_wr8_of_target {s : State} {a b : Word} (ha : plain a) (hopen : dmaBlocks s a = false) (v : Byte)
    (hb : target b = target a) : rawRead (wr8 a v s) b = v := by
  obtain ⟨k, hk, -⟩ := target_of_plain ha
  rw [wr8_of_cell hk hopen, rawRead_of_cell (hb.trans hk), memory_read_write, if_pos rfl]

/-- Settles O48: the stored byte is the one that the address and its mirror share, the frame is the store's, and the two-byte forms
are their bytes. -/
theorem loadSeesTheStore : Obligations.LoadSeesTheStore := by
  unfold Obligations.LoadSeesTheStore
  refine ⟨fun s a b v ha hopen => ⟨?_, fun h h' => ?_, fun h h' => ?_, fun hne hup hdown => ?_⟩, fun s a h h' => ?_, fun s a w =>
    ⟨join_eq_append _ _, by rw [wr16, hiByte_eq_extract, loByte_eq_extract]⟩⟩
  · have hopen' : dmaBlocks (wr8 a v s) a = false := by
      obtain ⟨k, hk, -⟩ := target_of_plain ha
      rw [wr8_of_cell hk hopen]; exact hopen
    rw [rd8_of_open hopen', rawRead_wr8_of_target ha hopen v rfl]
  · exact rawRead_wr8_of_target ha hopen v (target_mirror h h')
  · refine rawRead_wr8_of_target ha hopen v ?_
    have hdown : (a - 0x2000#16).toNat = a.toNat - 0x2000 := by rw [BitVec.toNat_sub]; simp; omega
    rw [← target_mirror (by omega) (by omega), BitVec.sub_add_cancel]
  · refine rawRead_wr8_of_not_storeReach ?_ v
    rintro ⟨-, rfl | ⟨-, -, h⟩ | ⟨-, -, h⟩ | ⟨h, -⟩ | ⟨h, -⟩ | ⟨-, h, -⟩ | ⟨-, h, -⟩⟩
    · exact hne rfl
    · exact hup (by bv_omega)
    · exact hdown (by bv_omega)
    all_goals unfold plain at ha
    · omega
    · omega
    · unfold inCart at h; omega
    · unfold inAudio at h; omega
  · have hk := target_stored (a := a) (by omega)
    rw [rawRead_of_cell hk, rawRead_of_cell ((target_mirror h h').trans hk)]

end Sys2Proof.Proofs
end

section
/-! The statements about an interrupt entry (60_exceptions.md R301 to R308) and the stack round trips (42_load16_stack.md R174, R175). -/

namespace Sys2Proof.Proofs

open Sys2Proof.Machine Sys2Proof.Laws Sys2Proof.Claims

/-! ### The entry (R304, R306, R307) -/

/-- The state an entry leaves: PC pushed, IME and the scheduled enable off, IF `f`, PC `pc`. -/
def entered (s : State) (pc : Word) (f : Byte) : State :=
  { pushed s.cpu.pc s with
    ifReg := f
    cpu := { s.cpu with ime := false, imeSched := false, sp := s.cpu.sp - 2#16, pc := pc, busy := 4 } }

theorem entered_mem (s : State) (pc : Word) (f : Byte) : (entered s pc f).mem = (pushed s.cpu.pc s).mem := rfl

theorem entered_dma (s : State) (pc : Word) (f : Byte) : (entered s pc f).dma = (pushed s.cpu.pc s).dma := rfl

/-- The selection after the pushes, in one record. -/
theorem dispatch_eq (s : State) :
    dispatch s = (lowestIrq (pendingBits (pushed s.cpu.pc s))).elim (entered s 0x0000#16 (pushed s.cpu.pc s).ifReg)
      fun i => entered s (vectorOf i) (clearBit (pushed s.cpu.pc s).ifReg i) := by
  have hpush : push16 s.cpu.pc (onCpu (fun c => { c with ime := false, imeSched := false }) s) =
      onCpu (fun c => { c with ime := false, imeSched := false, sp := c.sp - 2#16 }) (pushed s.cpu.pc s) := by
    simp only [push16_eq, wr8_onCpu, onCpu_cpu, onCpu_onCpu, pushed]
  have hcpu : (pushed s.cpu.pc s).cpu = s.cpu := by simp only [pushed, wr8_cpu]
  rw [dispatch, hpush, pendingBits_onCpu]
  cases lowestIrq (pendingBits (pushed s.cpu.pc s)) <;>
    simp only [Option.elim, entered, spend, onCpu, hcpu]

theorem lowestIrq_eq_some {q : Byte} {i : Nat} (h5 : i < 5) (hi : q.getLsbD i = true) (hlow : ∀ j, j < i → q.getLsbD j = false) :
    lowestIrq q = some i := by
  rw [lowestIrq, show [0, 1, 2, 3, 4] = List.range 5 from rfl, List.find?_range_eq_some]
  exact ⟨hi, List.mem_range.2 h5, fun j hj => by rw [bit, hlow j hj]; rfl⟩

theorem exists_lowest_bit : ∀ q : Byte, q &&& 0x1F#8 ≠ 0#8 →
    ∃ i, i < 5 ∧ (q &&& 0x1F#8).getLsbD i = true ∧ ∀ j, j < i → (q &&& 0x1F#8).getLsbD j = false := by decide

/-- Settles O36: the entry in one record, with the lowest pending request. -/
theorem interruptEntry : Obligations.InterruptEntry := by
  unfold Obligations.InterruptEntry
  refine fun s => ⟨fun i h5 hi hlow => ?_, fun hq => ?_, exists_lowest_bit _⟩
  · rw [dispatch_eq, pendingBits, lowestIrq_eq_some h5 hi hlow, Option.elim, clearBit_eq]; rfl
  · rw [dispatch_eq, pendingBits, hq]; rfl

/-! ### The stack -/

/-- What a push to plain memory stored is popped again from any state that shares its memory and its DMA Unit. -/
theorem popValue_of_pushed {s t : State} {w : Word} (h1 : plain (s.cpu.sp - 1#16)) (h2 : plain (s.cpu.sp - 2#16))
    (hopen1 : dmaBlocks s (s.cpu.sp - 1#16) = false) (hopen2 : dmaBlocks s (s.cpu.sp - 2#16) = false)
    (hmem : t.mem = (pushed w s).mem) (hdma : t.dma = (pushed w s).dma) (hsp : t.cpu.sp = s.cpu.sp - 2#16) : popValue t = w := by
  obtain ⟨k1, hk1, -⟩ := target_of_plain h1
  obtain ⟨k2, hk2, -⟩ := target_of_plain h2
  have hne : k1 ≠ k2 := by
    rintro rfl
    rcases target_cell_eq hk1 hk2 with h | ⟨-, -, h⟩ | ⟨-, -, h⟩ <;> bv_omega
  have hpushed : pushed w s = { s with mem := (s.mem.write k1 (hiByte w)).write k2 (loByte w) } := by
    rw [pushed, wr8_of_cell hk1 hopen1]
    exact wr8_of_cell (s := { s with mem := s.mem.write k1 (hiByte w) }) hk2 hopen2 _
  rw [hpushed] at hmem hdma
  have hopen (a : Word) (h : dmaBlocks s a = false) : dmaBlocks t a = false := by rw [← h, dmaBlocks, hdma]; rfl
  rw [popValue, rd16, hsp, show s.cpu.sp - 2#16 + 1#16 = s.cpu.sp - 1#16 by bv_omega, rd8_of_open (hopen _ hopen1),
    rd8_of_open (hopen _ hopen2), rawRead_of_cell hk1, rawRead_of_cell hk2, hmem, memory_read_write, if_neg hne,
    memory_read_write, if_pos rfl, memory_read_write, if_pos rfl, join_hiByte_loByte]

theorem join_low_nibble_cleared (w : Word) : join (hiByte w) (loByte w &&& 0xF0#8) = w &&& 0xFFF0#16 := by
  have happend : w = hiByte w ++ loByte w := by rw [← join_eq_append, join_hiByte_loByte]
  conv_rhs => rw [happend, show 0xFFF0#16 = 0xFF#8 ++ 0xF0#8 from rfl, BitVec.and_append]
  rw [join_eq_append, show 0xFF#8 = BitVec.allOnes 8 from rfl, BitVec.and_allOnes]

/-- A pair reads as it was written, AF with its low nibble cleared (10_state.md R12). -/
theorem pairQ_setPairQ (k : Cpu) (q : PairQ) (w : Word) :
    (k.setPairQ q w).pairQ q = if q = .af then w &&& 0xFFF0#16 else w := by
  cases q with
  | bc => exact join_hiByte_loByte w
  | de => exact join_hiByte_loByte w
  | hl => exact join_hiByte_loByte w
  | af => exact join_low_nibble_cleared w

theorem setPairQ_sp (k : Cpu) (q : PairQ) (w : Word) : (k.setPairQ q w).sp = k.sp := by cases q <;> rfl

/-- Whatever an entry selects, it leaves the pushed memory and the lowered SP. -/
theorem dispatch_entered (s : State) : ∃ pc f, dispatch s = entered s pc f := by
  rw [dispatch_eq]
  cases lowestIrq (pendingBits (pushed s.cpu.pc s)) with
  | none => exact ⟨_, _, rfl⟩
  | some i => exact ⟨_, _, rfl⟩

theorem retiOp_cpu (s : State) :
    (retiOp s).cpu = { s.cpu with sp := s.cpu.sp + 2#16, pc := popValue s, ime := true, busy := 3 } := rfl

theorem popOp_cpu (q : PairQ) (s : State) :
    (popOp q s).cpu = { (dropTop s.cpu).setPairQ q (popValue s) with busy := 2 } := rfl

/-- Settles O37: the popped word is the pushed one. -/
theorem stackRoundTrips : Obligations.StackRoundTrips := by
  unfold Obligations.StackRoundTrips
  intro s h1 h2 hopen1 hopen2
  have hsp : s.cpu.sp - 2#16 + 2#16 = s.cpu.sp := BitVec.sub_add_cancel _ _
  refine ⟨⟨retiOp (dispatch s), rfl, ?_⟩, fun r q => ⟨_, _, exec_pushRow r s, exec_popRow q _, ?_⟩⟩
  · obtain ⟨pc, f, hentry⟩ := dispatch_entered s
    have hpop : popValue (entered s pc f) = s.cpu.pc :=
      popValue_of_pushed h1 h2 hopen1 hopen2 (entered_mem s pc f) (entered_dma s pc f) rfl
    rw [hentry, retiOp_cpu, hpop]
    exact ⟨rfl, hsp, rfl, rfl, rfl, rfl, rfl⟩
  · have hpush : pushOp r s = spend 4 (onCpu (fun c => { c with sp := c.sp - 2#16 }) (pushed (s.cpu.pairQ r) s)) :=
      congrArg (spend 4) (push16_eq _ s)
    have hlowered : (pushOp r s).cpu.sp = s.cpu.sp - 2#16 := by
      rw [pushOp, spend, onCpu_cpu, push16_cpu]
    have hpop : popValue (pushOp r s) = s.cpu.pairQ r := by
      refine popValue_of_pushed h1 h2 hopen1 hopen2 ?_ ?_ hlowered <;> rw [hpush] <;> rfl
    rw [popOp_cpu, hpop]
    refine ⟨?_, ?_⟩
    · rw [← hsp, ← hlowered]; exact setPairQ_sp _ _ _
    · rw [← pairQ_setPairQ (dropTop (pushOp r s).cpu) q]; cases q <;> rfl

end Sys2Proof.Proofs
end

section
/-! The statement that R234 states its purpose by: DAA after ADD or SUB of packed decimal bytes (45_accum_misc.md R234). -/

namespace Sys2Proof.Proofs

open Sys2Proof.Machine Sys2Proof.Laws Sys2Proof.Claims

/-- What an adjustment must leave for the number `n`: its packed digits, and the carry `c`. -/
def IsDecimal (o : Out8) (n : Nat) (c : Bool) : Prop := isBcd o.res ∧ bcdValue o.res = n ∧ o.c = c

theorem isDecimal_of_digits {o : Out8} {n : Nat} {c : Bool} (hi lo : Nat) (hhi : hi ≤ 9) (hlo : lo ≤ 9)
    (hres : o.res.toNat = 16 * hi + lo) (hn : 10 * hi + lo = n) (hc : o.c = c) : IsDecimal o n c := by
  refine ⟨⟨?_, ?_⟩, ?_, hc⟩
  · omega
  · omega
  · rw [bcdValue, hres]; omega

/-- A sum of packed decimal bytes is adjusted in its low digit exactly when the low digits exceed 9, in its high digit exactly when
the sum exceeds 0x99. -/
theorem daaOut_add8 {a v : Byte} (ha : isBcd a) (hv : isBcd v) :
    daaOut (add8 a v false).res false (add8 a v false).h (add8 a v false).c =
      let low := decide (a.toNat % 16 + v.toNat % 16 > 9)
      let high := decide (a.toNat + v.toNat > 0x99)
      let res := BitVec.ofNat 8 (a.toNat + v.toNat + (if low then 0x06 else 0) + (if high then 0x60 else 0))
      ⟨res, decide (res = 0#8), false, false, high⟩ := by
  obtain ⟨ha0, ha1⟩ := ha
  obtain ⟨hv0, hv1⟩ := hv
  have hlow : (decide (a.toNat % 16 + v.toNat % 16 > 0x0F) || decide ((a.toNat + v.toNat) % 256 % 16 > 9)) =
      decide (a.toNat % 16 + v.toNat % 16 > 9) := by
    rw [← Bool.decide_or]; exact decide_eq_decide.2 (by omega)
  have hhigh : (decide (a.toNat + v.toNat > 0xFF) || decide ((a.toNat + v.toNat) % 256 > 0x99)) =
      decide (a.toNat + v.toNat > 0x99) := by
    rw [← Bool.decide_or]; exact decide_eq_decide.2 (by omega)
  have hres (n : Nat) : BitVec.ofNat 8 ((a.toNat + v.toNat) % 256 + n) = BitVec.ofNat 8 (a.toNat + v.toNat + n) := by
    rw [← BitVec.toNat_inj, BitVec.toNat_ofNat, BitVec.toNat_ofNat]; omega
  simp only [daaOut, add8, Bool.toNat_false, Nat.add_zero, BitVec.toNat_ofNat, Bool.false_eq_true, if_false, Nat.reducePow, hlow,
    hhigh, hres, Nat.add_assoc]

theorem isDecimal_daaOut_add8 {a v : Byte} (ha : isBcd a) (hv : isBcd v) :
    IsDecimal (daaOut (add8 a v false).res false (add8 a v false).h (add8 a v false).c)
      ((bcdValue a + bcdValue v) % 100) (decide (bcdValue a + bcdValue v ≥ 100)) := by
  rw [daaOut_add8 ha hv]
  obtain ⟨ha0, ha1⟩ := ha
  obtain ⟨hv0, hv1⟩ := hv
  unfold bcdValue
  refine isDecimal_of_digits
    ((a.toNat / 16 + v.toNat / 16 + if a.toNat % 16 + v.toNat % 16 > 9 then 1 else 0) % 10)
    ((a.toNat % 16 + v.toNat % 16) % 10) (by omega) (by omega) ?_ ?_ (decide_eq_decide.2 (by omega))
  · simp only [BitVec.toNat_ofNat, decide_eq_true_eq]
    split_ifs <;> omega
  · split_ifs <;> omega

/-- A difference of packed decimal bytes is adjusted in each digit that borrows. -/
theorem isDecimal_daaOut_sub8 {a v : Byte} (ha : isBcd a) (hv : isBcd v) :
    IsDecimal (daaOut (sub8 a v false).res true (sub8 a v false).h (sub8 a v false).c)
      ((bcdValue a + 100 - bcdValue v) % 100) (decide (bcdValue a < bcdValue v)) := by
  obtain ⟨ha0, ha1⟩ := ha
  obtain ⟨hv0, hv1⟩ := hv
  unfold bcdValue
  refine isDecimal_of_digits
    ((a.toNat / 16 + 10 - v.toNat / 16 - if a.toNat % 16 < v.toNat % 16 then 1 else 0) % 10)
    ((a.toNat % 16 + 10 - v.toNat % 16) % 10) (by omega) (by omega) ?_ ?_ (decide_eq_decide.2 (by simp; omega))
  · simp only [daaOut, sub8, Bool.toNat_false, Nat.add_zero, BitVec.toNat_ofInt, if_true, decide_eq_true_eq]
    split_ifs <;> omega
  · split_ifs <;> omega

/-- DAA on what an operation with the output `o` left. -/
theorem daa_of_isDecimal {s t u : State} {o : Out8} {n : Nat} {c : Bool}
    (ht : t = spend 2 (onCpu (fun k => Cpu.setOutFlags { k with a := o.res } o) s)) (hu : exec .daa t = .next u)
    (h : IsDecimal (daaOut o.res o.n o.h o.c) n c) : isBcd u.cpu.a ∧ bcdValue u.cpu.a = n ∧ u.cpu.fC = c := by
  obtain ⟨hbcd, hvalue, hcarry⟩ := h
  have hin : daaOut t.cpu.a t.cpu.fN t.cpu.fH t.cpu.fC = daaOut o.res o.n o.h o.c := by
    subst ht
    congr 1
    · exact fN_packFlags s.cpu _ _ _ _
    · exact fH_packFlags s.cpu _ _ _ _
    · exact fC_packFlags s.cpu _ _ _ _
  obtain rfl := Host.Outcome.next.inj ((exec_daa hin).symm.trans hu)
  exact ⟨hbcd, hvalue, (fC_packFlags s.cpu _ _ _ _).trans hcarry⟩

/-- Settles O20: both adjustments in integers, digit by digit. -/
theorem decimalAdjustMakesDecimalArithmetic : Obligations.DecimalAdjustMakesDecimalArithmetic := by
  unfold Obligations.DecimalAdjustMakesDecimalArithmetic
  refine fun s t u v ha hv => ⟨fun ht hu => ?_, fun ht hu => ?_⟩ <;> rw [exec_aluImmRow] at ht
  · exact daa_of_isDecimal (Host.Outcome.next.inj ht).symm hu (isDecimal_daaOut_add8 ha hv)
  · exact daa_of_isDecimal (Host.Outcome.next.inj ht).symm hu (isDecimal_daaOut_sub8 ha hv)

end Sys2Proof.Proofs
end

section
/-! The statement about the state after reset (10_state.md R32 to R36). -/

namespace Sys2Proof.Proofs

open Sys2Proof.Machine Sys2Proof.Laws Sys2Proof.Claims

/-- Settles O42: the fields of `State.reset`, whose sprite list is the scan of its OAM. -/
theorem resetState : Obligations.ResetState := by
  unfold Obligations.ResetState
  have hppu : State.reset.ppu = { State.reset.ppu with sprites := scanSprites State.reset.mem 8 0 } := by
    rw [← reset_sprites_is_the_scan]
  exact ⟨rfl, rfl, rfl, rfl, rfl, hppu, rfl, rfl, rfl, rfl, rfl, ⟨rfl, rfl, fun _ => rfl⟩, rfl, rfl, rfl, rfl, fun _ => rfl,
    fun _ _ => rfl⟩

end Sys2Proof.Proofs
end

section
/-! The statement about the sprite selector (60_exceptions.md R356, R357): the stable sort by X is a permutation that keeps, for each
X, the order of the entries. -/

namespace Sys2Proof.Proofs

open Sys2Proof.Machine Sys2Proof.Laws Sys2Proof.Claims

theorem sortedByX_tail {e : Sprite} {l : List Sprite} (h : sortedByX (e :: l) = true) : sortedByX l = true := by
  cases l with
  | nil => rfl
  | cons a l => exact (Bool.and_eq_true_iff.1 h).2

theorem le_of_sortedByX {e : Sprite} {l : List Sprite} (h : sortedByX (e :: l) = true) {b : Sprite} (hb : b ∈ l) :
    e.x.toNat ≤ b.x.toNat := by
  induction l generalizing e with
  | nil => simp at hb
  | cons a l ih =>
    have hea : e.x.toNat ≤ a.x.toNat := of_decide_eq_true (Bool.and_eq_true_iff.1 h).1
    rcases List.mem_cons.1 hb with rfl | hb
    · exact hea
    · exact hea.trans (ih (sortedByX_tail h) hb)

theorem insertByX_perm (e : Sprite) (l : List Sprite) : (insertByX e l).Perm (l ++ [e]) := by
  induction l with
  | nil => exact .refl _
  | cons a l ih =>
    unfold insertByX
    split
    · exact (List.perm_append_singleton e (a :: l)).symm
    · exact ih.cons a

/-- An inserted entry comes after the entries with its own X. -/
theorem filter_insertByX (e : Sprite) {l : List Sprite} (h : sortedByX l = true) (x : Byte) :
    (insertByX e l).filter (fun b => b.x = x) = (l ++ [e]).filter fun b => b.x = x := by
  induction l with
  | nil => rfl
  | cons a l ih =>
    unfold insertByX
    split
    case isTrue hlt =>
      by_cases hx : e.x = x
      · have hnone : (a :: l).filter (fun b => b.x = x) = [] := by
          refine List.filter_eq_nil_iff.2 fun b hb => ?_
          have hab : a.x.toNat ≤ b.x.toNat := by
            rcases List.mem_cons.1 hb with rfl | hb
            · exact le_rfl
            · exact le_of_sortedByX h hb
          rw [decide_eq_true_eq]
          rintro rfl
          rw [hx] at hlt
          omega
        rw [List.filter_append, List.filter_cons, hnone, List.nil_append, List.filter_cons, List.filter_nil]
      · rw [List.filter_append]; simp [hx]
    case isFalse => rw [List.filter_cons, ih (sortedByX_tail h), List.cons_append, List.filter_cons]

/-- Insertion by insertion, from any sorted list. -/
theorem foldl_insertByX (es : List Sprite) {l : List Sprite} (h : sortedByX l = true) :
    (es.foldl (fun acc e => insertByX e acc) l).Perm (l ++ es) ∧
      ∀ x : Byte, (es.foldl (fun acc e => insertByX e acc) l).filter (fun b => b.x = x) = (l ++ es).filter fun b => b.x = x := by
  induction es generalizing l with
  | nil => simp
  | cons e es ih =>
    obtain ⟨hperm, hfilter⟩ := ih (insertByX_sorted e l h).1
    rw [List.foldl_cons, List.append_cons]
    refine ⟨hperm.trans ((insertByX_perm e l).append_right es), fun x => ?_⟩
    rw [hfilter, List.filter_append, filter_insertByX e h, ← List.filter_append]

/-- Settles O57: the scan sorts the first ten visible entries stably. -/
theorem spriteSelector : Obligations.SpriteSelector := by
  unfold Obligations.SpriteSelector
  intro mem h ly entry chosen
  have hentry : oamEntry mem = entry := by
    funext k
    simp only [oamEntry, entry, Nat.add_right_comm _ (4 * k)]
  have hchosen : (visibleSprites mem h ly).take 10 = chosen := by
    rw [visibleSprites, hentry, List.filter_map]; rfl
  rw [scanSprites, hchosen]
  exact ⟨(stableSortByX_sorted chosen).1, foldl_insertByX chosen (l := []) rfl⟩

end Sys2Proof.Proofs
end

section
/-! The statement about the composition of a pixel (60_exceptions.md R370 to R372). -/

namespace Sys2Proof.Proofs

open Sys2Proof.Machine Sys2Proof.Laws Sys2Proof.Claims

theorem paletteShade_eq (pal : Byte) (i : Nat) : paletteShade pal i = pal.toNat / 4 ^ i % 4 := by
  rw [paletteShade, field, pow_mul]; rfl

/-- The signed tile index counts from 0x9000: the upper half of the indices names the tiles from 0x8800 (R371). -/
theorem tileBase_eq (lcdc t : Byte) :
    tileBase lcdc t = if lcdc.getLsbD 4 then 0x8000 + 16 * t.toNat
      else if t.toNat < 128 then 0x9000 + 16 * t.toNat else 0x8000 + 16 * t.toNat := by
  unfold tileBase signed8 bit
  split_ifs <;> omega

theorem toNat_and_FE (t : Byte) : (t &&& 0xFE#8).toNat = 2 * (t.toNat / 2) := by
  revert t; decide

/-- An entry shows nothing at the point: it does not cover it, or has index 0 there. -/
def ShowsNothing (mem : Memory) (h x y : Nat) (e : Sprite) : Prop := ∀ i, spriteIndexAt mem h x y e = some i → i = 0

/-- The selection passes over the entries that show nothing. -/
theorem spritePixel_append {mem : Memory} {h x y : Nat} {before : List Sprite} (es : List Sprite)
    (hbefore : ∀ b ∈ before, ShowsNothing mem h x y b) : spritePixel mem h x y (before ++ es) = spritePixel mem h x y es := by
  induction before with
  | nil => rfl
  | cons b before ih =>
    rw [List.cons_append, spritePixel, ih fun c hc => hbefore c (List.mem_cons_of_mem b hc)]
    have hb := hbefore b List.mem_cons_self
    cases hi : spriteIndexAt mem h x y b with
    | none => rfl
    | some i => obtain rfl := hb i hi; rfl

/-- And takes the first one that does not. -/
theorem spritePixel_first {mem : Memory} {h x y : Nat} {before : List Sprite} {e : Sprite} (after : List Sprite) {i : Nat}
    (hbefore : ∀ b ∈ before, ShowsNothing mem h x y b) (he : spriteIndexAt mem h x y e = some i) (hi : i ≠ 0) :
    spritePixel mem h x y (before ++ e :: after) = some (i, e.attr) := by
  obtain ⟨j, rfl⟩ := Nat.exists_eq_succ_of_ne_zero hi
  rw [spritePixel_append _ hbefore, spritePixel, he]

theorem spritePixel_none {mem : Memory} {h x y : Nat} {es : List Sprite} (hes : ∀ b ∈ es, ShowsNothing mem h x y b) :
    spritePixel mem h x y es = none := by
  rw [← List.append_nil es, spritePixel_append _ hes, spritePixel]

theorem pixelShade_none {mem : Memory} {p : Ppu} {x y : Nat}
    (hs : bit p.lcdc 1 = true → spritePixel mem (spriteHeight p.lcdc) x y p.sprites = none) :
    pixelShade mem p x y = (backgroundPixel mem p x y).2 := by
  unfold pixelShade
  split
  case isTrue hon => rw [hs hon]
  case isFalse => rfl

theorem pixelShade_some {mem : Memory} {p : Ppu} {x y i : Nat} {attr : Byte} (hon : bit p.lcdc 1 = true)
    (hs : spritePixel mem (spriteHeight p.lcdc) x y p.sprites = some (i, attr)) :
    pixelShade mem p x y =
      if bit attr 7 ∧ (backgroundPixel mem p x y).1 ≠ 0 then (backgroundPixel mem p x y).2
      else paletteShade (if bit attr 4 then p.obp1 else p.obp0) i := by
  rw [pixelShade, if_pos hon, hs]

/-- Settles O60: the statement's own tile address, palette and sprite index are the model's, and the selection is by the first entry
that shows something. -/
theorem pixelComposition : Obligations.PixelComposition := by
  unfold Obligations.PixelComposition
  intro mem p x y lcdc tile shadeOf bgIdx under h covers index
  have hshade : paletteShade = shadeOf := funext fun pal => funext fun i => paletteShade_eq pal i
  have htile (hiMap : Bool) (bx byy : Nat) : tilePixel mem p.lcdc hiMap bx byy = tile hiMap bx byy := by
    simp only [tilePixel, tile, tileBase_eq, planeIndex]; rfl
  have hbackground : backgroundPixel mem p x y = (bgIdx, under) := by
    simp only [backgroundPixel, htile, hshade, bgIdx, under, lcdc, bit, Bool.not_eq_true']
    split_ifs <;> rfl
  have hindex (e : Sprite) : spriteIndexAt mem h x y e = if covers e then some (index e) else none := by
    have htileIndex : (if h = 16 then e.tile &&& 0xFE#8 else e.tile).toNat =
        if h = 16 then 2 * (e.tile.toNat / 2) else e.tile.toNat := by
      split
      · exact toNat_and_FE e.tile
      · rfl
    simp only [spriteIndexAt, htileIndex]; rfl
  have hnothing {e : Sprite} (he : covers e → index e = 0) : ShowsNothing mem h x y e := by
    intro i hi
    rw [hindex] at hi
    split at hi
    case isTrue hcovers => rw [← Option.some.inj hi, he hcovers]
    case isFalse => cases hi
  refine ⟨fun hoff => ?_, fun hon hclear => ?_, fun hon before e after hsprites hbefore he hi => ?_⟩
  · rw [pixelShade_none fun hon => absurd (hoff.symm.trans hon) Bool.false_ne_true, hbackground]
  · rw [pixelShade_none fun _ => spritePixel_none fun e he => hnothing (hclear e he), hbackground]
  · have hs : spritePixel mem h x y p.sprites = some (index e, e.attr) := by
      rw [hsprites]
      exact spritePixel_first after (fun b hb => hnothing (hbefore b hb)) (by rw [hindex, if_pos he]) hi
    rw [pixelShade_some hon hs, hbackground, hshade]; rfl

end Sys2Proof.Proofs
end
